-- ==== Sys2Proof/Word.lean ====
section
/-! DEFINITION. The word types of the ACQ core: one abbreviation per format of spec 00_scope.md rule R11 and
30_encoding.md rule R120, so that the library's BitVec lemmas apply to every one of them.
A value of W_CNT bits (the counters of R37, the counts of R41) or of W_SEC bits (the seconds of R36) is a Nat, because
both widths are parameters of the instance (R12): the operations narrow it to its width (log entry 4). -/

namespace Sys2Proof

/-- One byte on the wire (R81). -/
abbrev Byte := BitVec 8

/-- ADDR, the 8-bit Register Address (R121). -/
abbrev Addr := BitVec 8

/-- REGVAL, a 16-bit Register Value, logical or raw (R122); also a signed 16-bit commanded value (R38, R132). -/
abbrev Word16 := BitVec 16

/-- MAG, the 28-bit unsigned magnitude (R33, R126). -/
abbrev Mag := BitVec 28

/-- EF and EFS, the four Error Flags (R33, R34, R124). -/
abbrev Nibble := BitVec 4

/-- A nanoseconds register: 30 bits (R36). -/
abbrev Nsec := BitVec 30

/-- The code of a state, ST (R31, R141). -/
abbrev StCode := BitVec 3

/-- The phase inside a state, PH (R31). -/
abbrev Phase := BitVec 4

/-- The 7-bit value of the program counter, ST above PH (R42, R141). -/
abbrev PcCode := BitVec 7

/-- DRV, the 32-bit driver operation descriptor (R140). -/
abbrev DrvWord := BitVec 32

end Sys2Proof
end

