-- ==== Sys2Proof/Machine/Ports.lean ====
section
/-! DEFINITION. What crosses the six ports (R60 to R66): the answers of the environment to each transaction of R16,
the sample record (R130), the transactions with their answers, the DIAG events (R66), the result of a driver operation
(R148) and the levels of the HOST port's inputs (R61). Types only. -/

namespace Sys2Proof.Machine

/-- The answer of a transaction that carries no value: `Ok` or `Fail` (R16). -/
inductive Ack where
  /-- The call succeeded. -/
  | ok
  /-- The call failed. -/
  | fail
  deriving DecidableEq, Repr, Inhabited

/-- The answer of `BusRead16` (R16, R95): a raw word, or a failure that is distinguishable from every word. In a
logical read (`MemRead`) the word is the logical value instead. -/
inductive RegAnswer where
  /-- `Ok(w)`. -/
  | ok (w : Word16)
  /-- `Fail`. -/
  | fail
  deriving DecidableEq, Repr, Inhabited

/-- The answer of `TimeNow()` (R16, R63, R133). The port's contract keeps nsec in 0 to 999,999,999, and the type
holds it there. -/
structure Instant where
  /-- Whole seconds; the port carries W_SEC bits of them (Env.timeAnswer). -/
  sec : Nat
  /-- Nanoseconds within the second. -/
  nsec : Fin 1000000000
  deriving DecidableEq, Repr, Inhabited

/-- The answer of `ActSend` (R16, R65): a number of bytes, which nothing examines (D22), or a failure. -/
inductive SendAnswer where
  /-- `Ok(bytes_sent)`. -/
  | ok (bytesSent : Nat)
  /-- `Fail`. -/
  | fail
  deriving DecidableEq, Repr, Inhabited

/-- REC, the sample record that `SinkEmit` carries (R130). -/
structure Sample where
  /-- The channel index. -/
  ch : BitVec 2
  /-- Elapsed seconds since run start, W_SEC bits. -/
  sec : Nat
  /-- Elapsed nanoseconds within the second. -/
  nsec : Nsec
  /-- The magnitude. -/
  mag : Mag
  /-- The error flags of the reading, carried as metadata. -/
  ef : Nibble
  deriving DecidableEq, Repr

/-- One external transaction of R16 with the answer it got: what the environment sees of the block. -/
inductive Txn where
  /-- `BusOpen()` with the address BUS_ADDRESS. -/
  | busOpen (address : Nat) (answer : Ack)
  /-- `BusRead16(a)`; the answer holds the raw word. -/
  | busRead (a : Addr) (answer : RegAnswer)
  /-- `BusWrite16(a, raw)`. -/
  | busWrite (a : Addr) (raw : Word16) (answer : Ack)
  /-- `BusRelease()`. -/
  | busRelease
  /-- `TimeNow()`. -/
  | timeNow (answer : Instant)
  /-- `SinkOpen()`, at which the sink writes the header line. -/
  | sinkOpen (header : String) (answer : Ack)
  /-- `SinkEmit(record)`. -/
  | sinkEmit (sample : Sample) (answer : Ack)
  /-- `SinkClose()`. -/
  | sinkClose (answer : Ack)
  /-- `ActSend(vec)`; the elements are in wire byte order (R86). -/
  | actSend (vec : List Word16) (answer : SendAnswer)
  /-- `ActRelease()`. -/
  | actRelease
  deriving DecidableEq, Repr

/-- An event of the DIAG port (R66). -/
inductive DiagEvent where
  /-- `skip_evt(addr)`: a sample was skipped; the address of the register whose read failed. -/
  | skipEvt (a : Addr)
  /-- `warn_evt(ef)`: a reading has non-zero error flags. -/
  | warnEvt (ef : Nibble)
  /-- `pollfail_evt`: a status read failed. -/
  | pollfailEvt
  deriving DecidableEq, Repr

/-- What a driver operation returns to its caller (R148, R160): a result or one error. -/
inductive DrvResult where
  /-- The empty result of WRREG, INIT and VERID. -/
  | unit
  /-- The 16-bit value of RDREG and SWAP16. -/
  | word (v : Word16)
  /-- The magnitude and error flags of RDCH. -/
  | reading (mag : Mag) (ef : Nibble)
  /-- IoFailure with the register address and, for INIT, the index of the failed step (R167). -/
  | ioFailure (a : Addr) (initStep : Option Nat)
  /-- IdentityMismatch with the address and expected against actual (R174). -/
  | identityMismatch (a : Addr) (expected actual : Word16)
  deriving DecidableEq, Repr

/-- The levels on the inputs of the HOST port (R61), sampled at the steps that the rules name (R328). -/
structure HostIn where
  /-- `rst`, active high (R310). -/
  rst : Bool
  /-- `start`, taken only in IDLE (R200). -/
  start : Bool
  /-- `stop_req`; it exists only when HAS_STOP (R212). -/
  stopReq : Bool
  /-- `cfg_channel`. -/
  channel : BitVec 2
  /-- `cfg_sample_count`; the port carries W_CNT bits of it (offered). -/
  sampleCount : Nat
  /-- `cfg_step_count`, likewise. -/
  stepCount : Nat
  /-- `cfg_cmd_inc`, signed. -/
  cmdInc : Word16
  /-- `cfg_cmd_limit`, unsigned. -/
  cmdLimit : Word16
  /-- `cfg_act_en`. -/
  actEn : Bool
  deriving DecidableEq, Repr

/-- An entry of the environment's script for the register transactions of the BUS port: what a forced answer is, or
that the transport answers by itself. It covers the failure script of the mock bus (R101) and both forms of a write
the device rejects (R97, D34). -/
inductive RegReply where
  /-- No forced answer: the transport behind the port answers. -/
  | byTransport
  /-- A forced `Fail`. -/
  | fail
  /-- A forced `Ok`: the raw word of a read; for a write, `Ok` with no effect on the stored registers. -/
  | ok (w : Word16)
  deriving DecidableEq, Repr

/-- What stands behind the ports when the script says nothing. -/
inductive Transport where
  /-- Nothing is known of it: every answer is a free value (R95, U5 to U9). -/
  | unspecified
  /-- The reference environment of R101: a map of raw words that stores what is written, every other call `Ok`. -/
  | mockBus
  deriving DecidableEq, Repr

end Sys2Proof.Machine
end

