-- ==== Sys2Proof/Config.lean ====
section
/-! DEFINITION. The implementation parameters of 00_scope.md rule R12 as one record of plain data, the assignment T of
95_test_vectors.md section 0, the constant ID_EXPECTED, and the free values: opaque constants with no body, which
nothing can evaluate and no proof can know. The constraints of R13 on a parameter record are
Sys2Proof.Machine.paramsLegal. -/

namespace Sys2Proof

/-- How the command vector is derived from the commanded value, CMD_DERIVE (R12, R243). -/
inductive CmdDerive where
  /-- The default: every element equals CMD (D21). -/
  | broadcast
  /-- Some other total function of CMD alone: the free function Config.cmdElement. -/
  | other
  deriving DecidableEq, Repr

/-- The parameters of R12 that vary from one instance of the hardware to another. ID_EXPECTED stands below. -/
structure Params where
  /-- REGSET, the set of legal register addresses. -/
  regset : List Addr
  /-- A_DATA_MSB, the high register of channel 0. -/
  aDataMsb : Addr
  /-- A_DATA_LSB, the low register of channel 0. -/
  aDataLsb : Addr
  /-- A_STATUS, the status register. -/
  aStatus : Addr
  /-- A_CONFIG, the activation register. -/
  aConfig : Addr
  /-- A_DEVICE_ID, the identity register. -/
  aDeviceId : Addr
  /-- The pairs (INIT_ADDR[k], INIT_VAL[k]) for k from 0 to 5. -/
  initTable : List (Addr × Word16)
  /-- DRDY_MASK, exactly one bit set. -/
  drdyMask : Word16
  /-- N_ACT, the number of elements of the command vector. -/
  nAct : Nat
  /-- CMD_DERIVE. -/
  cmdDerive : CmdDerive
  /-- CMD_INIT, signed. -/
  cmdInit : Word16
  /-- W_CNT, the width of the counters. -/
  wCnt : Nat
  /-- W_SEC, the width of a seconds value. -/
  wSec : Nat
  /-- MAX_SAMPLES. -/
  maxSamples : Nat
  /-- MAX_STEP. -/
  maxStep : Nat
  /-- POLL_LIMIT; 0 means no poll timeout. -/
  pollLimit : Nat
  /-- HAS_STOP. -/
  hasStop : Bool
  /-- HEADER_LINE. -/
  headerLine : String
  /-- BUS_ADDRESS. -/
  busAddress : Nat
  deriving DecidableEq, Repr

/-- ID_EXPECTED, the source's own constant; it is not open (R2, R11, R12). -/
def Config.idExpected : Word16 := 0x3055#16

/-- The test parameter assignment T of 95_test_vectors.md section 0. T does not list BUS_ADDRESS and HEADER_LINE: the
first is PRESUMED 0x2A (general knowledge by R12), the second is a DESIGN CHOICE, the empty text; log entries 1 and 2. -/
def Config.paramsT : Params where
  regset := [0x00#8, 0x01#8, 0x08#8, 0x10#8, 0x14#8, 0x18#8, 0x19#8, 0x1A#8, 0x1B#8, 0x7F#8]
  aDataMsb := 0x00#8
  aDataLsb := 0x01#8
  aStatus := 0x18#8
  aConfig := 0x1A#8
  aDeviceId := 0x7F#8
  initTable := [(0x08#8, 0x04D6#16), (0x10#8, 0x000A#16), (0x14#8, 0x1002#16), (0x19#8, 0x0000#16),
    (0x1B#8, 0x020C#16), (0x1A#8, 0x1601#16)]
  drdyMask := 0x0040#16
  nAct := 2
  cmdDerive := .broadcast
  cmdInit := 0#16
  wCnt := 32
  wSec := 32
  maxSamples := 1000
  maxStep := 1000
  pollLimit := 0
  hasStop := false
  headerLine := ""
  busAddress := 0x2A

/-! ## Free values: what the environment answers when nothing is known of it (log entry 5) -/

/-- FREE VALUE: the n-th answer, a `BusRead16` of a given address (R95: `Fail` or any raw word). -/
opaque Config.freeRead : Nat → Addr → Machine.RegAnswer

/-- FREE VALUE: the n-th answer, a `BusWrite16` of a given address and raw word. -/
opaque Config.freeWrite : Nat → Addr → Word16 → Machine.Ack

/-- FREE VALUE: the n-th answer, a `BusOpen`. -/
opaque Config.freeOpen : Nat → Machine.Ack

/-- FREE VALUE: the n-th answer, a `TimeNow`. -/
opaque Config.freeTime : Nat → Machine.Instant

/-- FREE VALUE: the n-th answer, a `SinkOpen`. -/
opaque Config.freeSinkOpen : Nat → Machine.Ack

/-- FREE VALUE: the n-th answer, a `SinkEmit` of a given record. -/
opaque Config.freeEmit : Nat → Machine.Sample → Machine.Ack

/-- FREE VALUE: the n-th answer, a `SinkClose`. -/
opaque Config.freeClose : Nat → Machine.Ack

/-- FREE VALUE: the n-th answer, an `ActSend` of a given vector. -/
opaque Config.freeSend : Nat → List Word16 → Machine.SendAnswer

/-! ## Free values inside the block -/

/-- FREE VALUE: CMD_DERIVE where it is not the broadcast: element i of the vector as a function of CMD alone (R243). -/
opaque Config.cmdElement : Nat → Word16 → Word16

/-- FREE VALUES: what the reset step leaves in the nine data registers of R51, at the n-th draw. -/
opaque Config.freeHi : Nat → Word16
/-- FREE VALUE: LO after a reset step (R51). -/
opaque Config.freeLo : Nat → Word16
/-- FREE VALUE: MAG after a reset step (R51). -/
opaque Config.freeMag : Nat → Mag
/-- FREE VALUE: EF after a reset step (R51). -/
opaque Config.freeEf : Nat → Nibble
/-- FREE VALUE: STAT after a reset step (R51). -/
opaque Config.freeStat : Nat → Word16
/-- FREE VALUE: T0S after a reset step (R51). -/
opaque Config.freeT0s : Nat → Nat
/-- FREE VALUE: T0N after a reset step (R51). -/
opaque Config.freeT0n : Nat → Nsec
/-- FREE VALUE: TSS after a reset step (R51). -/
opaque Config.freeTss : Nat → Nat
/-- FREE VALUE: TSN after a reset step (R51). -/
opaque Config.freeTsn : Nat → Nsec

end Sys2Proof
end

