-- ==== Sys2Proof/Syntax.lean ====
section
/-! DEFINITION. The instructions: one constructor per row of spec/opcode_table.json. The first six are the operations
of the Device Protocol Driver (R140, R143), the last eight the state handlers of the Acquisition Loop (R141), each
with the phase field PH of its code as its operand. -/

namespace Sys2Proof

/-- The operations of the block (R3): six driver operations and eight state handlers. -/
inductive Instr where
  /-- RDREG a (R163): one logical register read. -/
  | rdreg (a : Addr)
  /-- WRREG a, d (R165): one logical register write. -/
  | wrreg (a : Addr) (d : Word16)
  /-- INIT ch (R166, R167): the six configuration writes, CONFIG last. -/
  | init (ch : BitVec 2)
  /-- RDCH ch (R170): high register, then low register, then the assembly of R126. -/
  | rdch (ch : BitVec 2)
  /-- VERID d (R174): read the identity register and compare with d. -/
  | verid (d : Word16)
  /-- SWAP16 d (R161): the byte swap, no transaction. -/
  | swap16 (d : Word16)
  /-- ST_IDLE (R200). -/
  | stIdle (ph : Phase)
  /-- ST_INITIALIZING (R202 to R207). -/
  | stInitializing (ph : Phase)
  /-- ST_POLLING (R210 to R214). -/
  | stPolling (ph : Phase)
  /-- ST_SAMPLING (R220 to R226). -/
  | stSampling (ph : Phase)
  /-- ST_ACTUATING (R240 to R243). -/
  | stActuating (ph : Phase)
  /-- ST_TERMINATING (R249 to R252). -/
  | stTerminating (ph : Phase)
  /-- ST_DONE (R253). -/
  | stDone (ph : Phase)
  /-- ST_ABORTED (R254 to R258). -/
  | stAborted (ph : Phase)
  deriving DecidableEq, Repr

/-- The two code spaces of 30_encoding.md section 3: a DRV descriptor word (R140) and the 7-bit code of the program
counter (R141). -/
inductive Code where
  /-- A 32-bit DRV word. -/
  | drv (w : DrvWord)
  /-- A 7-bit code with ST in bits 6 to 4 and PH in bits 3 to 0. -/
  | fsm (c : PcCode)
  deriving DecidableEq, Repr

/-- Why a DRV word is refused (R145). The address check of R145 (e) needs the parameter REGSET and is made where the
operation runs. -/
inductive Reject where
  /-- R145 (b): one of bits 31 to 27 is set. -/
  | reservedBits
  /-- R145 (a): op is 0 or 7. -/
  | reservedOp
  /-- R145 (c): a field that must be 0 is not. -/
  | nonzeroField
  /-- R145 (d): INIT or RDCH with a channel other than 0. -/
  | illegalChannel
  deriving DecidableEq, Repr

end Sys2Proof
end

