-- ==== Sys2Proof/Machine/State.lean ====
section
/-! DEFINITION. The state of the machine as plain data: the registers of the block, which are exactly those of 10_state.md
rules R31 to R41; the parameter assignment of the instance (R12); the levels on the HOST port (R61); the far side of
the other ports (R16, R101); the driver program (R140); and the outputs. Then the reasons a step can stop and
the state after reset (R50, R51, R311). -/

namespace Sys2Proof.Machine

/-- Device register memory: pairs of a byte address and a byte. Register `a` is the two bytes at 2a and 2a + 1, in the
order of the wire (R81, R84). Its canonical form is Memory.wf. -/
abbrev Memory := List Host.Cell

/-- The registers of the block (R30: these and nothing else are its architectural state). -/
structure Regs where
  /-- ST, the state of the acquisition state machine (R31). -/
  st : StCode
  /-- PH, the phase inside the state (R31). -/
  ph : Phase
  /-- HI, the logical value of the last successful high-register read (R32). -/
  hi : Word16
  /-- LO, the logical value of the last successful low-register read (R32). -/
  lo : Word16
  /-- MAG, the magnitude of the last channel reading (R33). -/
  mag : Mag
  /-- EF, its error flags (R33). -/
  ef : Nibble
  /-- EFS, the sticky union of the error flags (R34). -/
  efs : Nibble
  /-- STAT, the logical value of the last successful status read (R35). -/
  stat : Word16
  /-- T0S, the seconds of run start, W_SEC bits (R36). -/
  t0s : Nat
  /-- T0N, the nanoseconds of run start (R36). -/
  t0n : Nsec
  /-- TSS, the elapsed seconds of the last sample, W_SEC bits (R36). -/
  tss : Nat
  /-- TSN, the elapsed nanoseconds of the last sample (R36). -/
  tsn : Nsec
  /-- NIT, the iterations, W_CNT bits (R37). -/
  nit : Nat
  /-- NEM, the emitted samples, W_CNT bits (R37). -/
  nem : Nat
  /-- NSK, the skipped samples, W_CNT bits (R37). -/
  nsk : Nat
  /-- SCT, the iterations of the current step, W_CNT bits (R37). -/
  sct : Nat
  /-- POLLS, the consecutive polls without data-ready, W_CNT bits (R37). -/
  polls : Nat
  /-- CMD, the current commanded value, signed (R38). -/
  cmd : Word16
  /-- ERR, the code of the error that ended the run (R39, R261). -/
  err : BitVec 3
  /-- ESTATE, ST of the step in which it arose (R39). -/
  estate : StCode
  /-- EPH, PH of the step in which it arose (R39). -/
  eph : Phase
  /-- EADDR, the register address involved (R39). -/
  eaddr : Addr
  /-- EEXP, the expected identity (R39). -/
  eexp : Word16
  /-- EACT, the actual identity (R39). -/
  eact : Word16
  /-- BUS_OWNED (R40). -/
  busOwned : Bool
  /-- SINK_OPEN (R40). -/
  sinkOpen : Bool
  /-- ACT_OWNED (R40). -/
  actOwned : Bool
  /-- CFG_CH, the channel index (R41). -/
  cfgCh : BitVec 2
  /-- CFG_NSAMP, the sample count, W_CNT bits (R41). -/
  cfgNsamp : Nat
  /-- CFG_STEP, the iterations per step, W_CNT bits (R41). -/
  cfgStep : Nat
  /-- CFG_INC, the command increment, signed (R41). -/
  cfgInc : Word16
  /-- CFG_LIM, the command limit, unsigned (R41). -/
  cfgLim : Word16
  /-- CFG_ACT, actuator_enabled (R41). -/
  cfgAct : Bool
  deriving DecidableEq, Repr

/-- The far side of the BUS, TIME, SINK and ACT ports, as data: scripts of the answers to come, oldest first, what
answers where a script is empty, the mock bus's registers, and the record of every transaction. Not state of the block
(R30); the MODEL's own (log entries 5, 6 and 19). -/
structure Env where
  /-- What answers where a script is empty. -/
  transport : Transport
  /-- The registers that the mock bus holds (R101). -/
  regs : Memory
  /-- Script for the register transactions, reads and writes alike. -/
  regQ : List RegReply
  /-- Script for `BusOpen`. -/
  openQ : List Ack
  /-- Script for `TimeNow`. -/
  timeQ : List Instant
  /-- Script for `SinkOpen`. -/
  sinkOpenQ : List Ack
  /-- Script for `SinkEmit`. -/
  emitQ : List Ack
  /-- Script for `SinkClose`. -/
  closeQ : List Ack
  /-- Script for `ActSend`. -/
  sendQ : List SendAnswer
  /-- Every transaction so far with its answer, in the order of issue (R105). -/
  trace : List Txn
  /-- How many free values have been drawn: the argument of the next one. -/
  draws : Nat
  deriving DecidableEq, Repr

/-- What a reset left behind: the resources that were owned when `rst` cleared the ownership flags without a release
(R312, D33: admitted, with the leak recorded). The MODEL's own. -/
structure Leak where
  /-- The bus handle was not released. -/
  bus : Bool
  /-- The sink was neither flushed nor closed. -/
  sink : Bool
  /-- The actuator transport was not released. -/
  act : Bool
  deriving DecidableEq, Repr

/-- The whole machine. -/
structure State where
  /-- The registers of the block (R31 to R41). -/
  regs : Regs
  /-- The parameter assignment of this instance (R12); no step changes it. -/
  params : Params
  /-- The levels on the HOST port's inputs during the next step (R61). -/
  host : HostIn
  /-- The levels the host will put there for the steps after it; when none is listed the levels stay. -/
  hostSched : List HostIn
  /-- The far side of the other ports. -/
  env : Env
  /-- The driver program: the DRV words that are still to be performed apart from the state machine, in IDLE only
(R140; log entries 8 and 27). It is no input of the HOST port, no step adds a word and State.reset has none, so the host
issues no transaction with it (R295). The MODEL's own. -/
  drv : List DrvWord
  /-- The DIAG events of the last step (R66). -/
  diag : List DiagEvent
  /-- The result that the last step's driver operation returned to its caller (R160), if it was one. -/
  drvResult : Option DrvResult
  /-- What resets have left unreleased. -/
  leak : Leak
  deriving DecidableEq, Repr

/-- The fatal errors of R261, named as there. -/
inductive RunError where
  /-- A bus transaction failed (R262). -/
  | ioFailure
  /-- The identity read differs from the expected constant (R263). -/
  | identityMismatch
  /-- Reconfiguring the device after activation; never raised (R264). -/
  | initializationOrderViolation
  /-- The run configuration is outside its valid range (R265). -/
  | configValidationError
  /-- A log or command transport write failed (R266). -/
  | sinkWriteFailure
  /-- The bounded wait ran out (R267). -/
  | pollTimeout
  deriving DecidableEq, Repr

/-- Why the machine stops with a fault. -/
inductive Fault where
  /-- A pair (ST, PH) outside the table of R259: it has no step (R146, U2: stuck). Raised by the state handlers for a
  phase their state does not have. Safe: no run from reset reaches it. -/
  | unreachablePhase (st : StCode) (ph : Phase)
  deriving DecidableEq, Repr

/-- Why a step is refused. -/
inductive Refusal where
  /-- An arm of exec without a meaning raises it. No arm does. Safe. -/
  | notModelled (mnemonic : String)
  /-- The DRV word at the head of the driver program is refused by R145 (a) to (d). Raised by the step. Safe: the spec
  gives such a word no meaning and no transaction. -/
  | badDescriptor (why : Reject)
  /-- RDREG or WRREG with an address outside REGSET (R94, R145 e, U4). Raised by those two. Safe. -/
  | addressOutsideRegset (a : Addr)
  /-- INIT or RDCH with a channel other than 0 (R145 d, U3). Raised by those two. Safe. -/
  | channelNotZero (ch : BitVec 2)
  /-- The parameter assignment breaks a constraint of R13, so it is no instance of this hardware. Raised by the step.
  Safe. -/
  | illegalParameters
  deriving DecidableEq, Repr

/-! ## Reset values -/

/-- The registers after reset: the control registers of R50 at 0; the data registers of R51, for which the spec gives no
value, at 0 too (DESIGN CHOICE, unsafe, log entry 10). -/
def Regs.reset : Regs where
  st := 0#3
  ph := 0#4
  hi := 0#16
  lo := 0#16
  mag := 0#28
  ef := 0#4
  efs := 0#4
  stat := 0#16
  t0s := 0
  t0n := 0#30
  tss := 0
  tsn := 0#30
  nit := 0
  nem := 0
  nsk := 0
  sct := 0
  polls := 0
  cmd := 0#16
  err := 0#3
  estate := 0#3
  eph := 0#4
  eaddr := 0#8
  eexp := 0#16
  eact := 0#16
  busOwned := false
  sinkOpen := false
  actOwned := false
  cfgCh := 0#2
  cfgNsamp := 0
  cfgStep := 0
  cfgInc := 0#16
  cfgLim := 0#16
  cfgAct := false

/-- No input raised: `rst`, `start` and `stop_req` low, the configuration inputs 0. -/
def HostIn.idle : HostIn where
  rst := false
  start := false
  stopReq := false
  channel := 0#2
  sampleCount := 0
  stepCount := 0
  cmdInc := 0#16
  cmdLimit := 0#16
  actEn := false

/-- An environment of which nothing is known and with which nothing has been exchanged. -/
def Env.unknown : Env where
  transport := .unspecified
  regs := []
  regQ := []
  openQ := []
  timeQ := []
  sinkOpenQ := []
  emitQ := []
  closeQ := []
  sendQ := []
  trace := []
  draws := 0

/-- The machine right after reset: the block in IDLE, waiting for `start` (R311), as an instance with the parameter
assignment T (log entry 1), no input raised, no driver program, nothing exchanged. -/
def State.reset : State where
  regs := Regs.reset
  params := Config.paramsT
  host := HostIn.idle
  hostSched := []
  env := Env.unknown
  drv := []
  diag := []
  drvResult := none
  leak := ⟨false, false, false⟩

end Sys2Proof.Machine
end

