-- ==== Sys2Proof/Machine/Operands.lean ====
section
/-! DEFINITION. Operand forms and the arithmetic on them: the byte swap (R17, R161), the wire bytes (R81, R84), the
magnitude assembly (R126), the commanded value's magnitude and sum (R241, R242), the command vector (R243), the elapsed
time (R223), the counters (R211, R230), and the text line of a sample (R131). -/

namespace Sys2Proof.Machine

/-- `swap16(v) = (v[7:0], v[15:8])`: the only byte reordering in the block (R17, R161). -/
def swap16 (v : Word16) : Word16 := v.extractLsb' 0 8 ++ v.extractLsb' 8 8

/-- The first byte on the wire of a raw word: raw16[7:0] (R84). -/
def wireFirst (raw : Word16) : Byte := raw.extractLsb' 0 8

/-- The second byte on the wire of a raw word: raw16[15:8] (R84). -/
def wireSecond (raw : Word16) : Byte := raw.extractLsb' 8 8

/-- The raw word of two wire bytes (R84). -/
def rawOfWire (first second : Byte) : Word16 := second ++ first

/-- `mag = (h[11:0], l[15:0])`, zero-extended, no scaling (R126, R171). -/
def assembleMag (h l : Word16) : Mag := h.extractLsb' 0 12 ++ l

/-- The magnitude of a signed 16-bit value, 0 to 32768, as the 17-bit absolute value of R241. -/
def cmdMagnitude (c : Word16) : BitVec 17 :=
  let x := c.signExtend 17
  if x.msb then -x else x

/-- The test of R241: the magnitude exceeds the unsigned limit, compared in 17 bits. -/
def exceedsLimit (c lim : Word16) : Bool := (lim.zeroExtend 17) < cmdMagnitude c

/-- The sum `x[CMD] + x[CFG_INC]` in 16 bits (R241, R242). -/
def cmdNext (c inc : Word16) : Word16 := c + inc

/-- Element i of `CMD_DERIVE(x[CMD])` (R243). -/
def cmdElementOf (d : CmdDerive) (i : Nat) (c : Word16) : Word16 :=
  match d with
  | .broadcast => c
  | .other => Config.cmdElement i c

/-- The command vector, element 0 first, before the swap to network order (R46, R132, R243). -/
def commandVector (p : Params) (c : Word16) : List Word16 :=
  (List.range p.nAct).map fun i => cmdElementOf p.cmdDerive i c

/-- What `ActSend` receives: every element swapped to network order (R86, R241). -/
def wireVector (p : Params) (c : Word16) : List Word16 := (commandVector p c).map swap16

/-- A nanoseconds answer of the TIME port in a 30-bit register (R36). -/
def nsecWord (n : Fin 1000000000) : Nsec := BitVec.ofNat 30 n.val

/-- One second in nanoseconds, in 30 bits. -/
def secondNs : Nsec := 1000000000#30

/-- The low `w` bits of an integer as an unsigned number: the narrowing to a width that is a parameter (R12). -/
def narrow (w : Nat) (x : Int) : Nat := (x % 2 ^ w).toNat

/-- The elapsed time from (t0s, t0n) to (s, n) with a borrow from the seconds, the seconds modulo 2^W_SEC (R223). -/
def elapsed (wSec : Nat) (t0s s : Nat) (t0n n : Nsec) : Nat × Nsec :=
  if t0n ≤ n then (narrow wSec (s - t0s), n - t0n)
  else (narrow wSec (s - t0s - 1), n + secondNs - t0n)

/-- `x + 1` in a counter of W_CNT bits (R37, R224, R226, R230). -/
def succCnt (wCnt : Nat) (c : Nat) : Nat := narrow wCnt (c + 1)

/-- `sat(x + 1)`: POLLS saturates at 2^W_CNT - 1 (R211). -/
def satSucc (wCnt : Nat) (c : Nat) : Nat := min (c + 1) (2 ^ wCnt - 1)

/-- The configuration inputs as the HOST port carries them, the counts in W_CNT bits (R61). -/
def offered (p : Params) (h : HostIn) : HostIn :=
  { h with sampleCount := narrow p.wCnt h.sampleCount, stepCount := narrow p.wCnt h.stepCount }

/-- Decimal digits padded with zeros on the left to 9 places (R131). -/
def pad9 (n : Nat) : String :=
  let digits := Nat.toDigits 10 n
  String.ofList (List.replicate (9 - digits.length) '0' ++ digits)

/-- A number in decimal (R131). -/
def decimal (n : Nat) : String := String.ofList (Nat.toDigits 10 n)

/-- The text line that the sink makes of a sample (R131), without the line ending. -/
def Sample.line (r : Sample) : String :=
  decimal r.ch.toNat ++ ", " ++ decimal r.sec ++ "." ++ pad9 r.nsec.toNat ++ ", " ++ decimal r.mag.toNat

end Sys2Proof.Machine
end

