-- ==== Sys2Proof/Machine/Flags.lean ====
section
/-! DEFINITION. The flags of R43: the four error flags and their sticky union (R34, R124, R222), the data-ready test
(R127, R211), and the two derived status outputs of the HOST port (R61). -/

namespace Sys2Proof.Machine

/-- EFLAGS, the top 4 bits of the high register (R123, R126). -/
def errorFlags (h : Word16) : Nibble := h.extractLsb' 12 4

/-- EF[3], under-range (R33, R124; the assignment is the spec's decision D5). -/
def underRange (ef : Nibble) : Bool := ef.getLsbD 3

/-- EF[2], over-range. -/
def overRange (ef : Nibble) : Bool := ef.getLsbD 2

/-- EF[1], watchdog. -/
def watchdogFlag (ef : Nibble) : Bool := ef.getLsbD 1

/-- EF[0], amplitude. -/
def amplitudeFlag (ef : Nibble) : Bool := ef.getLsbD 0

/-- `x[EFS] <- x[EFS] | EF` (R34). -/
def stickyFlags (efs ef : Nibble) : Nibble := efs ||| ef

/-- The DIAG event of a reading: `warn_evt` when a flag is set, none otherwise (R66, R222). -/
def warnEvents (ef : Nibble) : List DiagEvent := if ef = 0#4 then [] else [.warnEvt ef]

/-- `(s & DRDY_MASK) != 0` on the fresh logical status word (R127, R211). -/
def dataReady (mask status : Word16) : Bool := status &&& mask != 0#16

/-- The output `done = (ST = 6)` (R61). -/
def doneOutput (r : Regs) : Bool := r.st == 6#3

/-- The output `aborted = (ST = 7 and PH = 3)` (R61). -/
def abortedOutput (r : Regs) : Bool := r.st == 7#3 && r.ph == 3#4

end Sys2Proof.Machine
end

