-- ==== Sys2Proof/Machine/Memory.lean ====
section
/-! DEFINITION. The device register memory of the mock bus (R80, R101): reading and writing one byte, and one register as
two bytes in wire order (R81, R84). -/

namespace Sys2Proof.Machine

/-- What an unlisted byte reads as: 0, since the registers of the reference environment start at 0x0000
(95_test_vectors.md section 0); log entry 6. -/
def unlistedByte : Byte := 0#8

/-- The canonical form: addresses strictly rising, inside the 256 registers of two bytes each (R80), and no entry equal
to what an unlisted byte reads as. -/
abbrev Memory.wf (m : Memory) : Prop :=
  List.Pairwise (fun x y => x.1 < y.1) m ∧ ∀ c ∈ m, c.2 ≠ unlistedByte ∧ c.1 < 512

/-- Read one byte. -/
def Memory.readByte : Memory → Nat → Byte
  | [], _ => unlistedByte
  | (k, b) :: rest, a => if k = a then b else Memory.readByte rest a

/-- Write one byte, keeping the canonical form. -/
def Memory.writeByte : Memory → Nat → Byte → Memory
  | [], a, v => if v = unlistedByte then [] else [(a, v)]
  | (k, b) :: rest, a, v =>
    if a < k then (if v = unlistedByte then (k, b) :: rest else (a, v) :: (k, b) :: rest)
    else if a = k then (if v = unlistedByte then rest else (a, v) :: rest)
    else (k, b) :: Memory.writeByte rest a v

/-- The byte address of a register's first wire byte; the second is one above. An address names a whole register
(R80, R87). -/
def regByte (a : Addr) : Nat := 2 * a.toNat

/-- The raw word of a register: the first wire byte is its low half (R84). -/
def Memory.readReg (m : Memory) (a : Addr) : Word16 :=
  rawOfWire (m.readByte (regByte a)) (m.readByte (regByte a + 1))

/-- Store a raw word in a register. -/
def Memory.writeReg (m : Memory) (a : Addr) (raw : Word16) : Memory :=
  (m.writeByte (regByte a) (wireFirst raw)).writeByte (regByte a + 1) (wireSecond raw)

end Sys2Proof.Machine
end

