-- ==== Sys2Proof/Machine/PortOps.lean ====
section
/-! DEFINITION. The ten external transactions of R16 on the far side of the ports: for each, the answer that the
environment gives next, and the environment after it. A script's head answers first; where the script is empty the mock
bus of R101 answers, or, where nothing is known of the environment, a free value. Each transaction is recorded in the
trace at its place in the order of issue (R105). -/

namespace Sys2Proof.Machine

/-- Record a transaction with its answer. -/
def Env.log (e : Env) (t : Txn) : Env := { e with trace := e.trace ++ [t], draws := e.draws + 1 }

/-- The next answer of a port whose answers are `Ok` and `Fail`. The mock bus answers `Ok` (R101). -/
def ackFrom (script : List Ack) (tr : Transport) (free : Ack) : Ack :=
  match script with
  | r :: _ => r
  | [] =>
    match tr with
    | .mockBus => .ok
    | .unspecified => free

/-! ## BUS -/

/-- The answer to `BusOpen()` (R62). -/
def Env.openAnswer (e : Env) : Ack := ackFrom e.openQ e.transport (Config.freeOpen e.draws)

/-- After `BusOpen()` with the given BUS_ADDRESS. -/
def Env.afterOpen (address : Nat) (e : Env) : Env :=
  { e with openQ := e.openQ.tail }.log (.busOpen address e.openAnswer)

/-- The answer to `BusRead16(a)`: the raw word, or `Fail` (R62, R95, R101). -/
def Env.readAnswer (a : Addr) (e : Env) : RegAnswer :=
  match e.regQ.headD .byTransport with
  | .fail => .fail
  | .ok w => .ok w
  | .byTransport =>
    match e.transport with
    | .mockBus => .ok (e.regs.readReg a)
    | .unspecified => Config.freeRead e.draws a

/-- After `BusRead16(a)`. -/
def Env.afterRead (a : Addr) (e : Env) : Env :=
  { e with regQ := e.regQ.tail }.log (.busRead a (e.readAnswer a))

/-- The answer to `BusWrite16(a, raw)` (R62, R95, R101). -/
def Env.writeAnswer (a : Addr) (raw : Word16) (e : Env) : Ack :=
  match e.regQ.headD .byTransport with
  | .fail => .fail
  | .ok _ => .ok
  | .byTransport =>
    match e.transport with
    | .mockBus => .ok
    | .unspecified => Config.freeWrite e.draws a raw

/-- Whether a write lands in the mock bus's registers: no forced answer, and the mock bus behind the port (R101). A
forced `Ok` is the write that a device rejects silently (R97). -/
def Env.stores (e : Env) : Bool :=
  e.regQ.headD .byTransport == .byTransport && e.transport == .mockBus

/-- The registers after `BusWrite16(a, raw)`. -/
def Env.regsAfterWrite (a : Addr) (raw : Word16) (e : Env) : Memory :=
  if e.stores then e.regs.writeReg a raw else e.regs

/-- After `BusWrite16(a, raw)`. -/
def Env.afterWrite (a : Addr) (raw : Word16) (e : Env) : Env :=
  { e with regQ := e.regQ.tail, regs := e.regsAfterWrite a raw }.log (.busWrite a raw (e.writeAnswer a raw))

/-- After `BusRelease()`, which has no answer. -/
def Env.afterRelease (e : Env) : Env := e.log .busRelease

/-! ## TIME -/

/-- The answer to `TimeNow()`, whose seconds the TIME port carries in W_SEC bits (R63). The mock bus has no clock, so past
the script it is a free value. -/
def Env.timeAnswer (wSec : Nat) (e : Env) : Instant :=
  let t := e.timeQ.headD (Config.freeTime e.draws)
  { t with sec := narrow wSec t.sec }

/-- After `TimeNow()`. -/
def Env.afterTime (wSec : Nat) (e : Env) : Env :=
  { e with timeQ := e.timeQ.tail }.log (.timeNow (e.timeAnswer wSec))

/-! ## SINK -/

/-- The answer to `SinkOpen()` (R64). -/
def Env.sinkOpenAnswer (e : Env) : Ack := ackFrom e.sinkOpenQ e.transport (Config.freeSinkOpen e.draws)

/-- After `SinkOpen()`, which writes the header line (R64, R205). -/
def Env.afterSinkOpen (header : String) (e : Env) : Env :=
  { e with sinkOpenQ := e.sinkOpenQ.tail }.log (.sinkOpen header e.sinkOpenAnswer)

/-- The answer to `SinkEmit(r)` (R64). -/
def Env.emitAnswer (r : Sample) (e : Env) : Ack := ackFrom e.emitQ e.transport (Config.freeEmit e.draws r)

/-- After `SinkEmit(r)`. -/
def Env.afterEmit (r : Sample) (e : Env) : Env :=
  { e with emitQ := e.emitQ.tail }.log (.sinkEmit r (e.emitAnswer r))

/-- The answer to `SinkClose()` (R64). -/
def Env.closeAnswer (e : Env) : Ack := ackFrom e.closeQ e.transport (Config.freeClose e.draws)

/-- After `SinkClose()`. -/
def Env.afterClose (e : Env) : Env := { e with closeQ := e.closeQ.tail }.log (.sinkClose e.closeAnswer)

/-! ## ACT -/

/-- The answer to `ActSend(vec)` (R65). A mock transport takes every byte. -/
def Env.sendAnswer (vec : List Word16) (e : Env) : SendAnswer :=
  match e.sendQ with
  | r :: _ => r
  | [] =>
    match e.transport with
    | .mockBus => .ok (2 * vec.length)
    | .unspecified => Config.freeSend e.draws vec

/-- After `ActSend(vec)`. -/
def Env.afterSend (vec : List Word16) (e : Env) : Env :=
  { e with sendQ := e.sendQ.tail }.log (.actSend vec (e.sendAnswer vec))

/-- After `ActRelease()`, which has no answer. -/
def Env.afterActRelease (e : Env) : Env := e.log .actRelease

/-! ## What the sink and the actuator have received (R110) -/

/-- The samples that the sink accepted, in order (R110). -/
def emittedSamples (trace : List Txn) : List Sample :=
  trace.filterMap fun t => match t with
    | .sinkEmit r .ok => some r
    | _ => none

/-- The vectors that the actuator transport accepted, in order (R110). -/
def sentVectors (trace : List Txn) : List (List Word16) :=
  trace.filterMap fun t => match t with
    | .actSend v (.ok _) => some v
    | _ => none

end Sys2Proof.Machine
end

