-- ==== Sys2Proof/Machine/Ops.lean ====
section
/-! DEFINITION. The shared operations of the block: the constraints on the parameters (R13), the logical register access
(R16), moving the program counter (R15), taking a fatal error (R280) and an absorbed one (R226, R282), the end of an
iteration (R230), the reset step (R311), which is the only return from a fatal error (R285), and the validation of a
run configuration (R200). -/

namespace Sys2Proof.Machine

/-! ## Parameters -/

/-- The register addresses that the parameters name by role (R13). -/
def roleAddresses (p : Params) : List Addr := [p.aDataMsb, p.aDataLsb, p.aStatus, p.aConfig, p.aDeviceId]

/-- The addresses INIT_ADDR[0..5] (R12). -/
def initAddresses (p : Params) : List Addr := p.initTable.map (·.1)

/-- Exactly one bit is set (R13). -/
def exactlyOneBit (m : Word16) : Bool := (List.range 16).countP (fun i => m.getLsbD i) == 1

/-- The constraints that every parameter assignment meets (R12, R13). -/
def paramsLegal (p : Params) : Bool :=
  (roleAddresses p).all (p.regset.contains ·) && (initAddresses p).all (p.regset.contains ·)
    && p.initTable.length == 6
    && (initAddresses p).getLast? == some p.aConfig
    && ((initAddresses p).take 5).all (· != p.aConfig)
    && exactlyOneBit p.drdyMask
    && p.nAct != 0 && (1 ≤ p.maxSamples && p.maxSamples < 2 ^ p.wCnt) && (1 ≤ p.maxStep && p.maxStep < 2 ^ p.wCnt)
    && p.pollLimit < 2 ^ p.wCnt

/-- (INIT_ADDR[k], INIT_VAL[k]); legal parameters have six entries. -/
def initEntry (p : Params) (k : Nat) : Addr × Word16 := p.initTable.getD k (0#8, 0#16)

/-! ## Logical register access -/

/-- The answer of `MemRead(a, 2)`: the inbound swap of the raw word, or `Fail` (R16, R82, R163). -/
def State.memRead (a : Addr) (s : State) : RegAnswer :=
  match s.env.readAnswer a with
  | .ok w => .ok (swap16 w)
  | .fail => .fail

/-- After `MemRead(a, 2)`. -/
def State.afterMemRead (a : Addr) (s : State) : State := { s with env := s.env.afterRead a }

/-- The answer of `MemWrite(a, 2, v)`, which hands the outbound swap of `v` to the transport (R16, R82, R165). -/
def State.memWrite (a : Addr) (v : Word16) (s : State) : Ack := s.env.writeAnswer a (swap16 v)

/-- After `MemWrite(a, 2, v)`. -/
def State.afterMemWrite (a : Addr) (v : Word16) (s : State) : State :=
  { s with env := s.env.afterWrite a (swap16 v) }

/-! ## Control -/

/-- `pc <- (st, ph)` (R15). -/
def State.goto (st : StCode) (ph : Phase) (s : State) : State := { s with regs := { s.regs with st := st, ph := ph } }

/-- Raise an event on the DIAG port (R66). -/
def State.raise (ev : List DiagEvent) (s : State) : State := { s with diag := s.diag ++ ev }

/-- Hand a driver operation's result to its caller (R160). -/
def State.returnResult (r : DrvResult) (s : State) : State := { s with drvResult := some r }

/-! ## Errors -/

/-- The code held in ERR (R261). -/
def RunError.code : RunError → BitVec 3
  | .ioFailure => 1#3
  | .identityMismatch => 2#3
  | .initializationOrderViolation => 3#3
  | .configValidationError => 4#3
  | .sinkWriteFailure => 5#3
  | .pollTimeout => 6#3

/-- `abort(E, addr = a, expected = e, actual = v)` in the step whose code is (st, ph): record the error and enter
ABORTED at the phase `entry`, 0 but from TERMINATING phase 0 (R280, R250). Nothing else changes. -/
def abort (e : RunError) (st : StCode) (ph : Phase) (a : Addr) (expected actual : Word16) (entry : Phase) (s : State) :
    State :=
  { s with regs := { s.regs with
      err := e.code, estate := st, eph := ph, eaddr := a, eexp := expected, eact := actual, st := 7#3, ph := entry } }

/-- `abort(E)` with no address and no values, entering at phase 0 (R280). -/
def abortPlain (e : RunError) (st : StCode) (ph : Phase) (s : State) : State :=
  abort e st ph 0#8 0#16 0#16 0#4 s

/-- `abort(E, addr = a)`, entering at phase 0 (R280). -/
def abortAt (e : RunError) (st : StCode) (ph : Phase) (a : Addr) (s : State) : State :=
  abort e st ph a 0#16 0#16 0#4 s

/-! ## The end of an iteration -/

/-- SCT' of R230: the iterations of the current step, counted only with the actuator enabled. -/
def nextSct (wCnt : Nat) (r : Regs) : Nat := if r.cfgAct then succCnt wCnt r.sct else r.sct

/-- The registers after `advance()` (R230, R231): exhaustion of the sample count before the step boundary. -/
def advanceRegs (wCnt : Nat) (r : Regs) : Regs :=
  let nit := succCnt wCnt r.nit
  let sct := nextSct wCnt r
  if nit = r.cfgNsamp then { r with nit := nit, sct := sct, st := 5#3, ph := 0#4 }
  else if r.cfgAct = true ∧ sct = r.cfgStep then { r with nit := nit, sct := 0, st := 4#3, ph := 0#4 }
  else { r with nit := nit, sct := sct, st := 2#3, ph := 0#4 }

/-- `advance()`, the end of an iteration: no transaction of its own (R230). -/
def advance (s : State) : State := { s with regs := advanceRegs s.params.wCnt s.regs }

/-- `skip(a)`, the absorbed entry of an IoFailure in SAMPLING: count it, report it, and go on by `advance()`
(R226, R282). -/
def skip (a : Addr) (s : State) : State :=
  advance ({ s with regs := { s.regs with nsk := succCnt s.params.wCnt s.regs.nsk } }.raise [.skipEvt a])

/-- The absorbed entry of an IoFailure in POLLING: count the poll, report it, stay (R211, R282). -/
def pollFailure (s : State) : State :=
  { s with regs := { s.regs with polls := satSucc s.params.wCnt s.regs.polls } }.raise [.pollfailEvt]

/-! ## Run start -/

/-- The predicate `valid` of R200 over the offered configuration. -/
def configValid (p : Params) (h : HostIn) : Bool :=
  h.channel == 0#2
    && (1 ≤ h.sampleCount && h.sampleCount ≤ p.maxSamples)
    && (!h.actEn
      || (1 ≤ h.stepCount && h.stepCount ≤ p.maxStep
        && h.cmdInc != 0x8000#16
        && h.cmdLimit.toNat ≤ 32767 - (cmdMagnitude h.cmdInc).toNat
        && (cmdMagnitude p.cmdInit).toNat ≤ h.cmdLimit.toNat))

/-- Latch the offered configuration (R41, R200). -/
def latchConfig (s : State) : State :=
  let h := offered s.params s.host
  { s with regs := { s.regs with
      cfgCh := h.channel, cfgNsamp := h.sampleCount, cfgStep := h.stepCount, cfgInc := h.cmdInc,
      cfgLim := h.cmdLimit, cfgAct := h.actEn } }

/-- `run_start()` (R201). -/
def runStart (s : State) : State :=
  { s with regs := { s.regs with cmd := s.params.cmdInit, actOwned := s.host.actEn, st := 1#3, ph := 0#4 } }

/-! ## Reset -/

/-- The registers that the reset step leaves: the control registers of R50 at 0; the data registers of R51 unspecified,
each a free value of the n-th draw (R311). -/
def regsAfterReset (wSec n : Nat) : Regs :=
  { Regs.reset with
      hi := Config.freeHi n, lo := Config.freeLo n, mag := Config.freeMag n, ef := Config.freeEf n,
      stat := Config.freeStat n, t0s := narrow wSec (Config.freeT0s n), t0n := Config.freeT0n n,
      tss := narrow wSec (Config.freeTss n), tsn := Config.freeTsn n }

/-- What the reset leaves unreleased: the resources still owned when the flags are cleared (R312, D33). -/
def leakAfterReset (s : State) : Leak :=
  { bus := s.leak.bus || s.regs.busOwned, sink := s.leak.sink || s.regs.sinkOpen, act := s.leak.act || s.regs.actOwned }

/-- The reset step (R310, R311): no handler, no transaction on any port. The words of a driver program
are not the block's registers; they stay and are performed after the reset, in IDLE (DESIGN CHOICE, unsafe, log entry 29: the
spec does not say). -/
def resetStep (s : State) : State :=
  { s with
      regs := regsAfterReset s.params.wSec s.env.draws
      env := { s.env with draws := s.env.draws + 1 }
      leak := leakAfterReset s }

end Sys2Proof.Machine
end

