-- ==== Sys2Proof/Machine/Driver.lean ====
section
/-! DEFINITION. The six operations of the Device Protocol Driver (40_driver_ops.md). They write no register of the block
(R160): each is a function of its operands and of the answers of the BUS port, and hands its result to the caller. -/

namespace Sys2Proof.Machine

/-- Read a register and return its logical value, or IoFailure (R163). -/
def driverRead (a : Addr) (s : State) : State :=
  match s.memRead a with
  | .ok v => (s.afterMemRead a).returnResult (.word v)
  | .fail => (s.afterMemRead a).returnResult (.ioFailure a none)

/-- Write a logical value to a register, or IoFailure (R165). -/
def driverWrite (a : Addr) (d : Word16) (s : State) : State :=
  match s.memWrite a d with
  | .ok => (s.afterMemWrite a d).returnResult .unit
  | .fail => (s.afterMemWrite a d).returnResult (.ioFailure a none)

/-- Write the entries of an initialization table in order from step k, stopping at the first failure, which is reported
with its address and step (R167). -/
def driverInit : List (Addr × Word16) → Nat → State → State
  | [], _, s => s.returnResult .unit
  | (a, v) :: rest, k, s =>
    match s.memWrite a v with
    | .ok => driverInit rest (k + 1) (s.afterMemWrite a v)
    | .fail => (s.afterMemWrite a v).returnResult (.ioFailure a (some k))

/-- The second half of RDCH: the low register, then the assembly with the high word `h` (R170, R126). -/
def driverReadLow (h : Word16) (s : State) : State :=
  match s.memRead s.params.aDataLsb with
  | .ok l => (s.afterMemRead s.params.aDataLsb).returnResult (.reading (assembleMag h l) (errorFlags h))
  | .fail => (s.afterMemRead s.params.aDataLsb).returnResult (.ioFailure s.params.aDataLsb none)

/-- RDCH: the high register first; when it fails the low register is not read (R170). -/
def driverReadChannel (s : State) : State :=
  match s.memRead s.params.aDataMsb with
  | .ok h => driverReadLow h (s.afterMemRead s.params.aDataMsb)
  | .fail => (s.afterMemRead s.params.aDataMsb).returnResult (.ioFailure s.params.aDataMsb none)

/-- VERID: read the identity register and compare all 16 bits (R174). -/
def driverVerify (d : Word16) (s : State) : State :=
  match s.memRead s.params.aDeviceId with
  | .ok v =>
    (s.afterMemRead s.params.aDeviceId).returnResult
      (if v = d then .unit else .identityMismatch s.params.aDeviceId d v)
  | .fail => (s.afterMemRead s.params.aDeviceId).returnResult (.ioFailure s.params.aDeviceId none)

/-- RDREG a (R163); outside REGSET it is refused (R94, R145 e). -/
def execRdreg (a : Addr) (s : State) : Host.Outcome State Fault Refusal :=
  if s.params.regset.contains a then .next (driverRead a s) else .refused (.addressOutsideRegset a)

/-- WRREG a, d (R165); outside REGSET it is refused (R94, R145 e). Writability is not checked (R100). -/
def execWrreg (a : Addr) (d : Word16) (s : State) : Host.Outcome State Fault Refusal :=
  if s.params.regset.contains a then .next (driverWrite a d s) else .refused (.addressOutsideRegset a)

/-- INIT ch (R166, R167); a channel other than 0 is refused (R145 d). -/
def execInit (ch : BitVec 2) (s : State) : Host.Outcome State Fault Refusal :=
  if ch = 0#2 then .next (driverInit s.params.initTable 0 s) else .refused (.channelNotZero ch)

/-- RDCH ch (R170); a channel other than 0 is refused (R145 d). -/
def execRdch (ch : BitVec 2) (s : State) : Host.Outcome State Fault Refusal :=
  if ch = 0#2 then .next (driverReadChannel s) else .refused (.channelNotZero ch)

/-- VERID d (R174). -/
def execVerid (d : Word16) (s : State) : Host.Outcome State Fault Refusal := .next (driverVerify d s)

/-- SWAP16 d (R161). -/
def execSwap16 (d : Word16) (s : State) : Host.Outcome State Fault Refusal :=
  .next (s.returnResult (.word (swap16 d)))

end Sys2Proof.Machine
end

