-- ==== Sys2Proof/Machine/Sampling.lean ====
section
/-! DEFINITION. The handlers ST_POLLING, ST_SAMPLING and ST_ACTUATING (41_acquisition_fsm.md sections 3, 4 and 6): the
busy wait for data-ready, the channel reading with its flags, the time stamp, the emission, and the stepped command. -/

namespace Sys2Proof.Machine

/-- The status read of a poll step (R211). -/
def pollRead (s : State) : State :=
  let a := s.params.aStatus
  let s' := s.afterMemRead a
  match s.memRead a with
  | .fail => pollFailure s'
  | .ok v =>
    if dataReady s.params.drdyMask v then
      { s' with regs := { s'.regs with stat := v, polls := 0, st := 3#3, ph := 0#4 } }
    else { s' with regs := { s'.regs with stat := v, polls := satSucc s.params.wCnt s.regs.polls } }

/-- The poll step: `stop_req` first (R212), then the poll limit (R213), then the status read (R211, R288 c). -/
def pollStep (s : State) : State :=
  if s.params.hasStop && s.host.stopReq then s.goto 5#3 0#4
  else if s.params.pollLimit ≠ 0 ∧ s.params.pollLimit ≤ s.regs.polls then
    abortAt .pollTimeout 2#3 0#4 s.params.aStatus s
  else pollRead s

/-- ST_SAMPLING phase 0: the high register (R221). -/
def sampleHigh (s : State) : State :=
  let a := s.params.aDataMsb
  let s' := s.afterMemRead a
  match s.memRead a with
  | .ok h => { s' with regs := { s'.regs with hi := h, st := 3#3, ph := 1#4 } }
  | .fail => skip a s'

/-- ST_SAMPLING phase 1: the low register, the magnitude and the error flags (R222). -/
def sampleLow (s : State) : State :=
  let a := s.params.aDataLsb
  let s' := s.afterMemRead a
  match s.memRead a with
  | .ok l =>
    let ef := errorFlags s.regs.hi
    { s' with regs := { s'.regs with
        lo := l, ef := ef, mag := assembleMag s.regs.hi l, efs := stickyFlags s.regs.efs ef, st := 3#3, ph := 2#4 }
    }.raise (warnEvents ef)
  | .fail => skip a s'

/-- ST_SAMPLING phase 2: the elapsed time since run start (R223). -/
def sampleTime (s : State) : State :=
  let t := s.env.timeAnswer s.params.wSec
  let e := elapsed s.params.wSec s.regs.t0s t.sec s.regs.t0n (nsecWord t.nsec)
  { s with
      env := s.env.afterTime s.params.wSec
      regs := { s.regs with tss := e.1, tsn := e.2, st := 3#3, ph := 3#4 } }

/-- The record that phase 3 emits (R130, R224). -/
def sampleRecord (r : Regs) : Sample := ⟨r.cfgCh, r.tss, r.tsn, r.mag, r.ef⟩

/-- ST_SAMPLING phase 3: emit the record (R224). -/
def sampleEmit (s : State) : State :=
  let record := sampleRecord s.regs
  let s' := { s with env := s.env.afterEmit record }
  match s.env.emitAnswer record with
  | .ok => advance { s' with regs := { s'.regs with nem := succCnt s.params.wCnt s'.regs.nem } }
  | .fail => abortPlain .sinkWriteFailure 3#3 3#4 s'

/-- The actuating step: test the value about to be sent, send it, then increment (R241). -/
def actuateStep (s : State) : State :=
  if exceedsLimit s.regs.cmd s.regs.cfgLim then s.goto 5#3 0#4
  else
    let vec := wireVector s.params s.regs.cmd
    let s' := { s with env := s.env.afterSend vec }
    match s.env.sendAnswer vec with
    | .ok _ => { s' with regs := { s'.regs with cmd := cmdNext s.regs.cmd s.regs.cfgInc, st := 2#3, ph := 0#4 } }
    | .fail => abortPlain .sinkWriteFailure 4#3 0#4 s'

/-- ST_POLLING (R210, R211); its one phase is 0. -/
def execStPolling (ph : Phase) (s : State) : Host.Outcome State Fault Refusal :=
  if ph = 0#4 then .next (pollStep s) else .fault (.unreachablePhase 2#3 ph)

/-- ST_SAMPLING (R220); its phases are 0 to 3. -/
def execStSampling (ph : Phase) (s : State) : Host.Outcome State Fault Refusal :=
  match ph.toNat with
  | 0 => .next (sampleHigh s)
  | 1 => .next (sampleLow s)
  | 2 => .next (sampleTime s)
  | 3 => .next (sampleEmit s)
  | _ => .fault (.unreachablePhase 3#3 ph)

/-- ST_ACTUATING (R240, R241); its one phase is 0. -/
def execStActuating (ph : Phase) (s : State) : Host.Outcome State Fault Refusal :=
  if ph = 0#4 then .next (actuateStep s) else .fault (.unreachablePhase 4#3 ph)

end Sys2Proof.Machine
end

