-- ==== Sys2Proof/Machine/Startup.lean ====
section
/-! DEFINITION. The handlers ST_IDLE and ST_INITIALIZING (41_acquisition_fsm.md sections 1 and 2): taking `start`,
validating the configuration, acquiring what the run owns, writing the initialization table with CONFIG last, and
checking the identity. -/

namespace Sys2Proof.Machine

/-- ST_IDLE (R200): wait for `start`; latch and validate the configuration; start the run or abort it. -/
def idleStep (s : State) : State :=
  if s.host.start then
    if configValid s.params (offered s.params s.host) then runStart (latchConfig s)
    else abortPlain .configValidationError 0#3 0#4 (latchConfig s)
  else s

/-- ST_INITIALIZING phase 0: capture the time of run start (R203). -/
def initCaptureTime (s : State) : State :=
  let t := s.env.timeAnswer s.params.wSec
  { s with
      env := s.env.afterTime s.params.wSec
      regs := { s.regs with t0s := t.sec, t0n := nsecWord t.nsec, st := 1#3, ph := 1#4 } }

/-- ST_INITIALIZING phase 1: open the bus (R204). -/
def initOpenBus (s : State) : State :=
  let s' := { s with env := s.env.afterOpen s.params.busAddress }
  match s.env.openAnswer with
  | .ok => { s' with regs := { s'.regs with busOwned := true, st := 1#3, ph := 2#4 } }
  | .fail => abortPlain .ioFailure 1#3 1#4 s'

/-- ST_INITIALIZING phase 2: create the sink with its header line (R205). -/
def initOpenSink (s : State) : State :=
  let s' := { s with env := s.env.afterSinkOpen s.params.headerLine }
  match s.env.sinkOpenAnswer with
  | .ok => { s' with regs := { s'.regs with sinkOpen := true, st := 1#3, ph := 3#4 } }
  | .fail => abortPlain .sinkWriteFailure 1#3 2#4 s'

/-- ST_INITIALIZING phases 3 to 8: write entry `ph - 3` of the initialization table (R206). -/
def initWriteStep (ph : Phase) (s : State) : State :=
  let entry := initEntry s.params (ph.toNat - 3)
  match s.memWrite entry.1 entry.2 with
  | .ok => (s.afterMemWrite entry.1 entry.2).goto 1#3 (ph + 1)
  | .fail => abortAt .ioFailure 1#3 ph entry.1 (s.afterMemWrite entry.1 entry.2)

/-- ST_INITIALIZING phase 9: read the identity and compare it with ID_EXPECTED (R207). -/
def initCheckIdentity (s : State) : State :=
  let a := s.params.aDeviceId
  match s.memRead a with
  | .ok v =>
    if v = Config.idExpected then (s.afterMemRead a).goto 2#3 0#4
    else abort .identityMismatch 1#3 9#4 a Config.idExpected v 0#4 (s.afterMemRead a)
  | .fail => abortAt .ioFailure 1#3 9#4 a (s.afterMemRead a)

/-- ST_IDLE (R200, R201); its one phase is 0. -/
def execStIdle (ph : Phase) (s : State) : Host.Outcome State Fault Refusal :=
  if ph = 0#4 then .next (idleStep s) else .fault (.unreachablePhase 0#3 ph)

/-- ST_INITIALIZING (R202); its phases are 0 to 9. -/
def execStInitializing (ph : Phase) (s : State) : Host.Outcome State Fault Refusal :=
  match ph.toNat with
  | 0 => .next (initCaptureTime s)
  | 1 => .next (initOpenBus s)
  | 2 => .next (initOpenSink s)
  | 3 | 4 | 5 | 6 | 7 | 8 => .next (initWriteStep ph s)
  | 9 => .next (initCheckIdentity s)
  | _ => .fault (.unreachablePhase 1#3 ph)

end Sys2Proof.Machine
end

