-- ==== Sys2Proof/Machine/Teardown.lean ====
section
/-! DEFINITION. The handlers ST_TERMINATING, ST_DONE and ST_ABORTED (41_acquisition_fsm.md sections 7 and 8): closing the
sink and releasing the transports on the normal and on the error exit, and the two final states. -/

namespace Sys2Proof.Machine

/-- ST_TERMINATING phase 0: close the sink, once; a failure enters ABORTED at phase 1 (R250). -/
def terminateClose (s : State) : State :=
  let s' := { s with env := s.env.afterClose, regs := { s.regs with sinkOpen := false } }
  match s.env.closeAnswer with
  | .ok => s'.goto 5#3 1#4
  | .fail => abort .sinkWriteFailure 5#3 0#4 0#8 0#16 0#16 1#4 s'

/-- Release the actuator transport if it is owned (R251, R256). -/
def releaseActuator (s : State) : State :=
  if s.regs.actOwned then { s with env := s.env.afterActRelease, regs := { s.regs with actOwned := false } } else s

/-- ST_TERMINATING phase 1 (R251). -/
def terminateActuator (s : State) : State := (releaseActuator s).goto 5#3 2#4

/-- ST_TERMINATING phase 2: release the bus (R252). -/
def terminateBus (s : State) : State :=
  { s with env := s.env.afterRelease, regs := { s.regs with busOwned := false } }.goto 6#3 0#4

/-- ST_ABORTED phase 0: close the sink if it is open, whatever it answers (R255). -/
def abortClose (s : State) : State :=
  if s.regs.sinkOpen then
    { s with env := s.env.afterClose, regs := { s.regs with sinkOpen := false } }.goto 7#3 1#4
  else s.goto 7#3 1#4

/-- ST_ABORTED phase 1 (R256). -/
def abortActuator (s : State) : State := (releaseActuator s).goto 7#3 2#4

/-- ST_ABORTED phase 2: release the bus if it is owned (R257). -/
def abortBus (s : State) : State :=
  if s.regs.busOwned then
    { s with env := s.env.afterRelease, regs := { s.regs with busOwned := false } }.goto 7#3 3#4
  else s.goto 7#3 3#4

/-- ST_TERMINATING (R249); its phases are 0 to 2. -/
def execStTerminating (ph : Phase) (s : State) : Host.Outcome State Fault Refusal :=
  match ph.toNat with
  | 0 => .next (terminateClose s)
  | 1 => .next (terminateActuator s)
  | 2 => .next (terminateBus s)
  | _ => .fault (.unreachablePhase 5#3 ph)

/-- ST_DONE (R253): final; no register changes and nothing is transacted. -/
def execStDone (ph : Phase) (s : State) : Host.Outcome State Fault Refusal :=
  if ph = 0#4 then .next s else .fault (.unreachablePhase 6#3 ph)

/-- ST_ABORTED (R254); its phases are 0 to 3, and phase 3 is final (R258). -/
def execStAborted (ph : Phase) (s : State) : Host.Outcome State Fault Refusal :=
  match ph.toNat with
  | 0 => .next (abortClose s)
  | 1 => .next (abortActuator s)
  | 2 => .next (abortBus s)
  | 3 => .next s
  | _ => .fault (.unreachablePhase 7#3 ph)

end Sys2Proof.Machine
end

