-- ==== Sys2Proof/Machine/Dispatch.lean ====
section
/-! DEFINITION. One arm per row of the opcode table. -/

namespace Sys2Proof.Machine

def exec (i : Instr) (s : State) : Host.Outcome State Fault Refusal :=
  match i with
  -- the Device Protocol Driver
  | .rdreg a => Sys2Proof.Machine.execRdreg a s
  | .wrreg a d => Sys2Proof.Machine.execWrreg a d s
  | .init ch => Sys2Proof.Machine.execInit ch s
  | .rdch ch => Sys2Proof.Machine.execRdch ch s
  | .verid d => Sys2Proof.Machine.execVerid d s
  | .swap16 d => Sys2Proof.Machine.execSwap16 d s
  -- the Acquisition Loop
  | .stIdle ph => Sys2Proof.Machine.execStIdle ph s
  | .stInitializing ph => Sys2Proof.Machine.execStInitializing ph s
  | .stPolling ph => Sys2Proof.Machine.execStPolling ph s
  | .stSampling ph => Sys2Proof.Machine.execStSampling ph s
  | .stActuating ph => Sys2Proof.Machine.execStActuating ph s
  | .stTerminating ph => Sys2Proof.Machine.execStTerminating ph s
  | .stDone ph => Sys2Proof.Machine.execStDone ph s
  | .stAborted ph => Sys2Proof.Machine.execStAborted ph s

end Sys2Proof.Machine
end

