-- ==== Sys2Proof/Decode.lean ====
section
/-! DEFINITION. The decoder of 30_encoding.md section 3, total on every DRV word and every 7-bit code and refusing by
name (R143, R144, R145), the encoder after it, and the rows of the opcode table as masks and matches. -/

namespace Sys2Proof

/-! ## Fields of a DRV word (R140) -/

/-- Bits 31 to 27, which must be 0. -/
def drvReserved (w : DrvWord) : BitVec 5 := w.extractLsb' 27 5

/-- The operation code, bits 26 to 24. -/
def drvOp (w : DrvWord) : BitVec 3 := w.extractLsb' 24 3

/-- The field a, bits 23 to 16: a register address, or a channel in its two low bits. -/
def drvA (w : DrvWord) : BitVec 8 := w.extractLsb' 16 8

/-- The field d, bits 15 to 0. -/
def drvD (w : DrvWord) : Word16 := w.extractLsb' 0 16

/-- The channel field of INIT and RDCH, a[1:0]. -/
def drvChannel (w : DrvWord) : BitVec 2 := w.extractLsb' 16 2

/-- The bits a[7:2], which must be 0 in INIT and RDCH. -/
def drvAboveChannel (w : DrvWord) : BitVec 6 := w.extractLsb' 18 6

/-- A channel operation (INIT, RDCH): d and a[7:2] are 0 (R145 c) and the channel is 0 (R145 d). -/
def decodeChannelOp (w : DrvWord) (make : BitVec 2 → Instr) : Except Reject Instr :=
  if drvD w ≠ 0#16 ∨ drvAboveChannel w ≠ 0#6 then .error .nonzeroField
  else if drvChannel w ≠ 0#2 then .error .illegalChannel
  else .ok (make (drvChannel w))

/-- Decode a DRV word by R143, refusing what R145 (a) to (d) refuses. The address check of R145 (e) needs REGSET and is
made by the operation. -/
def decodeDrv (w : DrvWord) : Except Reject Instr :=
  if drvReserved w ≠ 0#5 then .error .reservedBits
  else
    match (drvOp w).toNat with
    | 1 => if drvD w ≠ 0#16 then .error .nonzeroField else .ok (.rdreg (drvA w))
    | 2 => .ok (.wrreg (drvA w) (drvD w))
    | 3 => decodeChannelOp w .init
    | 4 => decodeChannelOp w .rdch
    | 5 => if drvA w ≠ 0#8 then .error .nonzeroField else .ok (.verid (drvD w))
    | 6 => if drvA w ≠ 0#8 then .error .nonzeroField else .ok (.swap16 (drvD w))
    | _ => .error .reservedOp

/-! ## The code of the program counter (R141) -/

/-- ST, bits 6 to 4 of the code. -/
def fsmState (c : PcCode) : StCode := c.extractLsb' 4 3

/-- PH, bits 3 to 0 of the code. -/
def fsmPhase (c : PcCode) : Phase := c.extractLsb' 0 4

/-- The value {ST, PH} (R42). -/
def pcCode (st : StCode) (ph : Phase) : PcCode := st ++ ph

/-- Select the handler by ST alone (R141, R144); PH is its operand. Every code of ST is used, so every code decodes. -/
def decodeFsm (c : PcCode) : Instr :=
  match (fsmState c).toNat with
  | 0 => .stIdle (fsmPhase c)
  | 1 => .stInitializing (fsmPhase c)
  | 2 => .stPolling (fsmPhase c)
  | 3 => .stSampling (fsmPhase c)
  | 4 => .stActuating (fsmPhase c)
  | 5 => .stTerminating (fsmPhase c)
  | 6 => .stDone (fsmPhase c)
  | _ => .stAborted (fsmPhase c)

/-- The decoder over both code spaces. -/
def decode : Code → Except Reject Instr
  | .drv w => decodeDrv w
  | .fsm c => .ok (decodeFsm c)

/-! ## The encoder -/

/-- A DRV word from its fields op, a and d; bits 31 to 27 are 0 (R140). -/
def drvWord (op : BitVec 3) (a : BitVec 8) (d : Word16) : DrvWord := 0#5 ++ op ++ a ++ d

/-- The code of an instruction, from the tables of R143 and R141. -/
def encode : Instr → Code
  | .rdreg a => .drv (drvWord 1#3 a 0#16)
  | .wrreg a d => .drv (drvWord 2#3 a d)
  | .init ch => .drv (drvWord 3#3 (0#6 ++ ch) 0#16)
  | .rdch ch => .drv (drvWord 4#3 (0#6 ++ ch) 0#16)
  | .verid d => .drv (drvWord 5#3 0#8 d)
  | .swap16 d => .drv (drvWord 6#3 0#8 d)
  | .stIdle ph => .fsm (pcCode 0#3 ph)
  | .stInitializing ph => .fsm (pcCode 1#3 ph)
  | .stPolling ph => .fsm (pcCode 2#3 ph)
  | .stSampling ph => .fsm (pcCode 3#3 ph)
  | .stActuating ph => .fsm (pcCode 4#3 ph)
  | .stTerminating ph => .fsm (pcCode 5#3 ph)
  | .stDone ph => .fsm (pcCode 6#3 ph)
  | .stAborted ph => .fsm (pcCode 7#3 ph)

/-! ## The rows of the opcode table -/

/-- The mask and match of a DRV row of R143 for the operation codes 1 to 6; none for the reserved codes 0 and 7. -/
def drvRow (op : Nat) : Option (DrvWord × DrvWord) :=
  match op with
  | 1 => some (0xFF00FFFF#32, 0x01000000#32)
  | 2 => some (0xFF000000#32, 0x02000000#32)
  | 3 => some (0xFFFFFFFF#32, 0x03000000#32)
  | 4 => some (0xFFFFFFFF#32, 0x04000000#32)
  | 5 => some (0xFFFF0000#32, 0x05000000#32)
  | 6 => some (0xFFFF0000#32, 0x06000000#32)
  | _ => none

/-- The operation code of R143 of a driver operation; none for a state handler. -/
def Instr.drvOpCode : Instr → Option Nat
  | .rdreg _ => some 1
  | .wrreg _ _ => some 2
  | .init _ => some 3
  | .rdch _ => some 4
  | .verid _ => some 5
  | .swap16 _ => some 6
  | .stIdle _ | .stInitializing _ | .stPolling _ | .stSampling _ | .stActuating _ | .stTerminating _ | .stDone _
  | .stAborted _ => none

/-- The row of the opcode table that a DRV word selects: `W & mask = match` (R143). -/
def selectsRow (w : DrvWord) (op : Nat) : Bool :=
  match drvRow op with
  | some (mask, pattern) => w &&& mask == pattern
  | none => false

/-! ## The host's question -/

/-- The code that an instruction of `nbits` bits with the bits `w` stands for: a row of one byte is a 7-bit {ST, PH} code
(the container's bit 7 belongs to no code and is not looked at, log entry 14), a longer row is a DRV word; nothing is
longer than 32 bits (R147). -/
def tableCode (nbits w : Nat) : Option Code :=
  if nbits ≤ 8 then some (.fsm (BitVec.ofNat 7 w))
  else if nbits ≤ 32 then some (.drv (BitVec.ofNat 32 w))
  else none

/-- The instruction that the decoder reads from an instruction whose bits are `w`. -/
def decodeTableWord (nbits w : Nat) : Option Instr :=
  match tableCode nbits w with
  | some c =>
    match decode c with
    | .ok i => some i
    | .error _ => none
  | none => none

end Sys2Proof
end

