-- ==== Sys2Proof/Machine/Fetch.lean ====
section
/-! DEFINITION. What the step does around an instruction: which code comes next, taking it, and the host's inputs moving
on. The state machine fetches nothing, its code is (ST, PH) (R42, R140, R144). A driver program exercises the driver apart
from the state machine (R140), so its words are taken in IDLE only: from `start` to the final state the handlers alone
use the ports (R286, R295; log entries 8, 27 and 30). -/

namespace Sys2Proof.Machine

/-- The program counter as its 7-bit value (R42). -/
def State.pc (s : State) : PcCode := pcCode s.regs.st s.regs.ph

/-- The state machine waits in IDLE, so no run is under way (R200). -/
def State.inIdle (s : State) : Bool := s.regs.st == 0#3 && s.regs.ph == 0#4

/-- The code that the next step executes: in IDLE the next word of the driver program; with none, and in every other
state, the program counter. In ABORTED no word is taken, so no register transaction follows `abort` (R286), and in DONE
nothing is transacted (R253). That the program goes before `start`, and waits in the other states, is the model's choice
(log entry 27); so is which words are left after an operation that returned an error (programAfter, log entry 30). -/
def State.nextCode (s : State) : Code :=
  if s.inIdle then
    match s.drv with
    | w :: _ => .drv w
    | [] => .fsm s.pc
  else .fsm s.pc

/-- The instruction that the next step executes, or why its word is refused. -/
def State.fetch (s : State) : Except Reject Instr := decode s.nextCode

/-- Before the instruction: its word is taken, and the one-step outputs of the step before are gone (R66). -/
def State.begin (s : State) : State :=
  { s with drv := if s.inIdle then s.drv.tail else s.drv, diag := [], drvResult := none }

/-- The words that a driver program goes on with after an operation. R16 leaves what follows an error to the caller's
rule, and the caller of a program is the model's own (DESIGN CHOICE, log entry 30): after an IdentityMismatch, which is
fatal and after which no further bus calls occur (R175, R176), the rest of the program is dropped; after an IoFailure
and after a result it goes on. -/
def programAfter (r : Option DrvResult) (rest : List DrvWord) : List DrvWord :=
  match r with
  | some (.identityMismatch _ _ _) => []
  | some .unit | some (.word _) | some (.reading _ _) | some (.ioFailure _ _) | none => rest

/-- After the instruction: the caller's rule on the rest of the driver program (R16). -/
def State.settle (s : State) : State := { s with drv := programAfter s.drvResult s.drv }

/-- After the instruction: the host's next levels stand on the HOST port (R61). -/
def State.tick (s : State) : State := { s with host := s.hostSched.headD s.host, hostSched := s.hostSched.tail }

/-- After an instruction that answered. -/
def tickOutcome : Host.Outcome State Fault Refusal → Host.Outcome State Fault Refusal
  | .next s => .next s.settle.tick
  | .fault r => .fault r
  | .refused r => .refused r

/-- Store a code where the next step takes it: a DRV word at the head of the driver program with the state machine in
IDLE, a {ST, PH} code in the program counter with no driver program before it. `rst` is low, since a reset step runs no instruction (R310). -/
def State.withCode (s : State) (c : Code) : State :=
  match c with
  | .drv w =>
    { s with
        drv := w :: s.drv.tail
        host := { s.host with rst := false }
        regs := { s.regs with st := 0#3, ph := 0#4 } }
  | .fsm p =>
    { s with
        drv := []
        host := { s.host with rst := false }
        regs := { s.regs with st := fsmState p, ph := fsmPhase p } }

end Sys2Proof.Machine
end

