-- ==== Sys2Proof/Machine/Step.lean ====
section
/-! DEFINITION. One step of the machine (R18), and where an instruction is stored for the next step. -/

namespace Sys2Proof.Machine

/-- One step: a parameter assignment that breaks R13 is refused; `rst` makes it the reset step (R310); otherwise the next
instruction is decoded and executed, and the caller's rule and the host's next levels follow it. -/
def step (s : State) : Host.Outcome State Fault Refusal :=
  if paramsLegal s.params then
    if s.host.rst then .next (resetStep { s with diag := [], drvResult := none }).tick
    else
      match s.fetch with
      | .ok i => tickOutcome (exec i s.begin)
      | .error why => .refused (.badDescriptor why)
  else .refused .illegalParameters

/-- `s` with the instruction whose `nbits` bits are `w` stored where the next step takes it; an instruction longer than
any of this hardware is stored nowhere. -/
def State.withFetchWord (s : State) (nbits w : Nat) : State :=
  match tableCode nbits w with
  | some c => s.withCode c
  | none => s

end Sys2Proof.Machine
end

