-- ==== Sys2Proof/WellFormed.lean ====
section
/-! DEFINITION. Which instructions are well formed. Three separate checks: the channel operand (R145 d), the register
address (R145 e, R94) and the phase (R141, R146). The must-be-zero fields of R145 (b) and (c) have no place in Instr. -/

namespace Sys2Proof

/-- R145 (d): INIT and RDCH name channel 0. -/
def Instr.channelOk : Instr → Bool
  | .init ch | .rdch ch => ch == 0#2
  | .rdreg _ | .wrreg _ _ | .verid _ | .swap16 _ => true
  | .stIdle _ | .stInitializing _ | .stPolling _ | .stSampling _ | .stActuating _ | .stTerminating _ | .stDone _
  | .stAborted _ => true

/-- R94, R145 (e): RDREG and WRREG name a member of REGSET. -/
def Instr.addressOk (p : Params) : Instr → Bool
  | .rdreg a | .wrreg a _ => p.regset.contains a
  | .init _ | .rdch _ | .verid _ | .swap16 _ => true
  | .stIdle _ | .stInitializing _ | .stPolling _ | .stSampling _ | .stActuating _ | .stTerminating _ | .stDone _
  | .stAborted _ => true

/-- The column of phases of R141: a handler's phase is one of its state's. -/
def Instr.phaseOk : Instr → Bool
  | .rdreg _ | .wrreg _ _ | .init _ | .rdch _ | .verid _ | .swap16 _ => true
  | .stIdle ph => ph == 0#4
  | .stInitializing ph => ph.toNat ≤ 9
  | .stPolling ph => ph == 0#4
  | .stSampling ph => ph.toNat ≤ 3
  | .stActuating ph => ph == 0#4
  | .stTerminating ph => ph.toNat ≤ 2
  | .stDone ph => ph == 0#4
  | .stAborted ph => ph.toNat ≤ 3

/-- An instruction that the encoding can hold: the channel is 0. It does not depend on the parameters. -/
def Instr.encodable (i : Instr) : Bool := i.channelOk

/-- An instruction of the instance with the parameters `p`: every check holds. -/
def Instr.wf (p : Params) (i : Instr) : Bool := i.channelOk && i.addressOk p && i.phaseOk

end Sys2Proof
end

