-- ==== Sys2Proof/Safety.lean ====
section
/-! DEFINITION. The terms in which the statements about the machine are written: the frame of an instruction, the
control-flow graph of R259, the reset values of R50, and the invariant that every step keeps. -/

namespace Sys2Proof.Safety

open Sys2Proof.Machine

/-! ## Frames -/

/-- The environment's scripts, one per kind of transaction that has an answer. -/
inductive Script where
  /-- Register reads and writes. -/
  | register
  /-- `BusOpen`. -/
  | busOpen
  /-- `TimeNow`. -/
  | time
  /-- `SinkOpen`. -/
  | sinkOpen
  /-- `SinkEmit`. -/
  | emit
  /-- `SinkClose`. -/
  | close
  /-- `ActSend`. -/
  | send
  /-- No script: a release, or no transaction at all. -/
  | none
  deriving DecidableEq, Repr

/-- Of the script `q` the first `n` answers are gone, every other script is as it was. -/
abbrev Consumes (q : Script) (n : Nat) (e f : Env) : Prop :=
  f.regQ = e.regQ.drop (if q = .register then n else 0) ∧ f.openQ = e.openQ.drop (if q = .busOpen then n else 0)
    ∧ f.timeQ = e.timeQ.drop (if q = .time then n else 0)
    ∧ f.sinkOpenQ = e.sinkOpenQ.drop (if q = .sinkOpen then n else 0)
    ∧ f.emitQ = e.emitQ.drop (if q = .emit then n else 0) ∧ f.closeQ = e.closeQ.drop (if q = .close then n else 0)
    ∧ f.sendQ = e.sendQ.drop (if q = .send then n else 0)

/-- Every byte of the device register memory reads as before. -/
abbrev KeepsMemory (s t : State) : Prop := ∀ b : Nat, t.env.regs.readByte b = s.env.regs.readByte b

/-- What no instruction touches: the parameters, the host's inputs, the rest of the driver program, the record of leaks
and the kind of the environment. -/
abbrev KeepsSurroundings (s t : State) : Prop :=
  t.params = s.params ∧ t.host = s.host ∧ t.hostSched = s.hostSched ∧ t.drv = s.drv ∧ t.leak = s.leak
    ∧ t.env.transport = s.env.transport

/-- Exactly the transactions `l` were performed, in this order, after those of before; their answers came from the
script `q`; and the surroundings are as they were. -/
abbrev Transacts (q : Script) (l : List Txn) (s t : State) : Prop :=
  t.env.trace = s.env.trace ++ l ∧ Consumes q l.length s.env t.env ∧ KeepsSurroundings s t

/-- No transaction on any port: the environment and the surroundings are as they were. -/
abbrev Silent (s t : State) : Prop := t.env = s.env ∧ KeepsSurroundings s t

/-! ## What makes an instance and a run legal, in the words of the rules -/

/-- The constraints of R12 and R13 on a parameter assignment. -/
abbrev ParamsConform (p : Params) : Prop :=
  (p.aDataMsb ∈ p.regset ∧ p.aDataLsb ∈ p.regset ∧ p.aStatus ∈ p.regset ∧ p.aConfig ∈ p.regset
      ∧ p.aDeviceId ∈ p.regset)
    ∧ (∀ x ∈ p.initTable, x.1 ∈ p.regset) ∧ p.initTable.length = 6
    ∧ (∀ (k : Nat) (x : Addr × Word16), p.initTable[k]? = some x → (x.1 = p.aConfig ↔ k = 5))
    ∧ (∃ i : Fin 16, p.drdyMask = 1#16 <<< i.val)
    ∧ 1 ≤ p.nAct ∧ (1 ≤ p.maxSamples ∧ p.maxSamples ≤ 2 ^ p.wCnt - 1)
    ∧ (1 ≤ p.maxStep ∧ p.maxStep ≤ 2 ^ p.wCnt - 1) ∧ p.pollLimit ≤ 2 ^ p.wCnt - 1

/-- The predicate `valid` of R200, over the integers. -/
abbrev ConfigurationValid (p : Params) (h : HostIn) : Prop :=
  h.channel = 0#2 ∧ (1 ≤ h.sampleCount ∧ h.sampleCount ≤ p.maxSamples)
    ∧ (h.actEn = false
      ∨ 1 ≤ h.stepCount ∧ h.stepCount ≤ p.maxStep ∧ h.cmdInc.toInt ≠ -32768
        ∧ (h.cmdLimit.toNat : Int) ≤ 32767 - |h.cmdInc.toInt| ∧ |p.cmdInit.toInt| ≤ (h.cmdLimit.toNat : Int))

/-- A time in nanoseconds (R133). -/
abbrev nanoseconds (sec : Nat) (nsec : Nsec) : Nat := sec * 1000000000 + nsec.toNat

/-- A transaction of the ACT port. -/
def onActPort : Txn → Bool
  | .actSend _ _ | .actRelease => true
  | .busOpen _ _ | .busRead _ _ | .busWrite _ _ _ | .busRelease | .timeNow _ | .sinkOpen _ _ | .sinkEmit _ _
  | .sinkClose _ => false

/-- A register transaction of the BUS port. -/
def onRegister : Txn → Bool
  | .busRead _ _ | .busWrite _ _ _ => true
  | .busOpen _ _ | .busRelease | .timeNow _ | .sinkOpen _ _ | .sinkEmit _ _ | .sinkClose _ | .actSend _ _
  | .actRelease => false

/-- One of the calls that are left after `abort` (R286). -/
def onTeardown : Txn → Bool
  | .sinkClose _ | .actRelease | .busRelease => true
  | .busOpen _ _ | .busRead _ _ | .busWrite _ _ _ | .timeNow _ | .sinkOpen _ _ | .sinkEmit _ _ | .actSend _ _ => false

/-- The transaction column of the table of R259: whether the step of (ST, PH) may perform a transaction. -/
def transactionListed (p : Params) (st : StCode) (ph : Phase) : Txn → Prop
  | .timeNow _ => (st, ph) = (1#3, 0#4) ∨ (st, ph) = (3#3, 2#4)
  | .busOpen _ _ => (st, ph) = (1#3, 1#4)
  | .sinkOpen _ _ => (st, ph) = (1#3, 2#4)
  | .busWrite a _ _ => st = 1#3 ∧ 3#4 ≤ ph ∧ ph ≤ 8#4 ∧ (ph = 8#4 → a = p.aConfig)
  | .busRead a _ =>
    (st, ph) = (1#3, 9#4) ∧ a = p.aDeviceId ∨ (st, ph) = (2#3, 0#4) ∧ a = p.aStatus
      ∨ (st, ph) = (3#3, 0#4) ∧ a = p.aDataMsb ∨ (st, ph) = (3#3, 1#4) ∧ a = p.aDataLsb
  | .sinkEmit _ _ => (st, ph) = (3#3, 3#4)
  | .actSend _ _ => (st, ph) = (4#3, 0#4)
  | .sinkClose _ => (st, ph) = (5#3, 0#4) ∨ (st, ph) = (7#3, 0#4)
  | .actRelease => (st, ph) = (5#3, 1#4) ∨ (st, ph) = (7#3, 1#4)
  | .busRelease => (st, ph) = (5#3, 2#4) ∨ (st, ph) = (7#3, 2#4)

/-! ## Control flow -/

/-- The phases that R141 and R259 list for a state. -/
def pcListed (st : StCode) (ph : Phase) : Bool :=
  match st.toNat with
  | 0 => ph == 0#4
  | 1 => ph ≤ 9#4
  | 2 => ph == 0#4
  | 3 => ph ≤ 3#4
  | 4 => ph == 0#4
  | 5 => ph ≤ 2#4
  | 6 => ph == 0#4
  | _ => ph ≤ 3#4

/-- The successors that the table of R259 gives a program counter value; none for a value it does not list. -/
def successors (p : Params) (st : StCode) (ph : Phase) : List (StCode × Phase) :=
  match st.toNat, ph.toNat with
  | 0, 0 => [(0#3, 0#4), (1#3, 0#4), (7#3, 0#4)]
  | 1, 0 => [(1#3, 1#4)]
  | 1, 1 => [(1#3, 2#4), (7#3, 0#4)]
  | 1, 2 => [(1#3, 3#4), (7#3, 0#4)]
  | 1, 3 => [(1#3, 4#4), (7#3, 0#4)]
  | 1, 4 => [(1#3, 5#4), (7#3, 0#4)]
  | 1, 5 => [(1#3, 6#4), (7#3, 0#4)]
  | 1, 6 => [(1#3, 7#4), (7#3, 0#4)]
  | 1, 7 => [(1#3, 8#4), (7#3, 0#4)]
  | 1, 8 => [(1#3, 9#4), (7#3, 0#4)]
  | 1, 9 => [(2#3, 0#4), (7#3, 0#4)]
  | 2, 0 =>
    [(2#3, 0#4), (3#3, 0#4)] ++ (if p.hasStop then [(5#3, 0#4)] else [])
      ++ (if p.pollLimit ≠ 0 then [(7#3, 0#4)] else [])
  | 3, 0 => [(3#3, 1#4), (2#3, 0#4), (4#3, 0#4), (5#3, 0#4)]
  | 3, 1 => [(3#3, 2#4), (2#3, 0#4), (4#3, 0#4), (5#3, 0#4)]
  | 3, 2 => [(3#3, 3#4)]
  | 3, 3 => [(2#3, 0#4), (4#3, 0#4), (5#3, 0#4), (7#3, 0#4)]
  | 4, 0 => [(2#3, 0#4), (5#3, 0#4), (7#3, 0#4)]
  | 5, 0 => [(5#3, 1#4), (7#3, 1#4)]
  | 5, 1 => [(5#3, 2#4)]
  | 5, 2 => [(6#3, 0#4)]
  | 6, 0 => [(6#3, 0#4)]
  | 7, 0 => [(7#3, 1#4)]
  | 7, 1 => [(7#3, 2#4)]
  | 7, 2 => [(7#3, 3#4)]
  | 7, 3 => [(7#3, 3#4)]
  | _, _ => []

/-- The two final states of the machine (R253, R258). -/
abbrev Final (r : Regs) : Prop := r.st = 6#3 ∧ r.ph = 0#4 ∨ r.st = 7#3 ∧ r.ph = 3#4

/-- The program counter stands at IDLE, (ST, PH) = (0, 0). -/
abbrev AtIdle (r : Regs) : Prop := r.st = 0#3 ∧ r.ph = 0#4

/-- The next instruction is the state machine's: there is no driver program, or the state machine is not in IDLE, where
alone a program is performed (log entry 27). -/
abbrev HandlerNext (s : State) : Prop := s.drv = [] ∨ ¬ AtIdle s.regs

/-- The machine runs a state handler next: the parameters are legal, `rst` is low, the next instruction is the state
machine's. -/
abbrev RunsHandler (s : State) : Prop := paramsLegal s.params = true ∧ s.host.rst = false ∧ HandlerNext s

/-! ## Reset -/

/-- The control registers have the values that R50 gives them after reset. The data registers of R51 are not named. -/
abbrev ControlReset (r : Regs) : Prop :=
  r.st = 0#3 ∧ r.ph = 0#4 ∧ r.err = 0#3 ∧ r.estate = 0#3 ∧ r.eph = 0#4 ∧ r.eaddr = 0#8 ∧ r.eexp = 0#16
    ∧ r.eact = 0#16 ∧ r.busOwned = false ∧ r.sinkOpen = false ∧ r.actOwned = false ∧ r.nit = 0 ∧ r.nem = 0
    ∧ r.nsk = 0 ∧ r.sct = 0 ∧ r.polls = 0 ∧ r.efs = 0#4 ∧ r.cmd = 0#16 ∧ r.cfgCh = 0#2
    ∧ r.cfgNsamp = 0 ∧ r.cfgStep = 0 ∧ r.cfgInc = 0#16 ∧ r.cfgLim = 0#16 ∧ r.cfgAct = false

/-! ## The invariant -/

/-- R39, R261: outside ABORTED the error record is clear; in ABORTED the code is one that a step can raise, never 3
or 7. -/
abbrev ErrorRecordOk (r : Regs) : Prop :=
  (r.st = 7#3 → r.err = 1#3 ∨ r.err = 2#3 ∨ r.err = 4#3 ∨ r.err = 5#3 ∨ r.err = 6#3)
    ∧ (r.st ≠ 7#3 → r.err = 0#3 ∧ r.estate = 0#3 ∧ r.eph = 0#4 ∧ r.eaddr = 0#8 ∧ r.eexp = 0#16 ∧ r.eact = 0#16)

/-- R40, R249, R253, R258: what is owned at each program counter value. -/
abbrev OwnershipOk (r : Regs) : Prop :=
  (r.st = 0#3 ∨ r.st = 6#3 → r.busOwned = false ∧ r.sinkOpen = false ∧ r.actOwned = false)
    ∧ (r.st = 1#3 → r.busOwned = decide (2#4 ≤ r.ph) ∧ r.sinkOpen = decide (3#4 ≤ r.ph) ∧ r.actOwned = r.cfgAct)
    ∧ (r.st = 2#3 ∨ r.st = 3#3 ∨ r.st = 4#3 → r.busOwned = true ∧ r.sinkOpen = true ∧ r.actOwned = r.cfgAct)
    ∧ (r.st = 5#3 → r.busOwned = true ∧ r.sinkOpen = decide (r.ph = 0#4)
        ∧ r.actOwned = (r.cfgAct && decide (r.ph ≠ 2#4)))
    ∧ (r.st = 7#3 → (r.ph ≠ 0#4 → r.sinkOpen = false) ∧ (2#4 ≤ r.ph → r.actOwned = false)
        ∧ (r.ph = 3#4 → r.busOwned = false) ∧ (r.cfgAct = false → r.actOwned = false))

/-- R37: the counters agree, stay inside the configured counts, and are 0 before the first poll. -/
abbrev CountersOk (p : Params) (r : Regs) : Prop :=
  r.nit = r.nem + r.nsk ∧ r.nit ≤ r.cfgNsamp
    ∧ (r.st = 0#3 ∨ r.st = 1#3 →
        r.nit = 0 ∧ r.nem = 0 ∧ r.nsk = 0 ∧ r.sct = 0 ∧ r.polls = 0 ∧ r.efs = 0#4)
    ∧ (r.st = 2#3 ∨ r.st = 3#3 ∨ r.st = 4#3 → r.nit < r.cfgNsamp)
    ∧ (r.cfgAct = false → r.sct = 0) ∧ (r.cfgAct = true → r.sct ≤ r.cfgStep)
    ∧ (r.cfgAct = true → r.st = 2#3 ∨ r.st = 3#3 → r.sct < r.cfgStep)
    ∧ (r.st = 4#3 → r.cfgAct = true ∧ r.sct = 0)
    ∧ (r.st = 3#3 ∨ r.st = 4#3 → r.polls = 0)
    ∧ (p.pollLimit ≠ 0 → r.polls ≤ p.pollLimit)

/-- R44, R200, R242: in a run the latched configuration is a legal one and the commanded value stays where the next sum
cannot leave 16 bits; in IDLE nothing is latched. -/
abbrev ConfigOk (p : Params) (r : Regs) : Prop :=
  (r.st = 0#3 → r.cmd = 0#16 ∧ r.cfgCh = 0#2 ∧ r.cfgNsamp = 0 ∧ r.cfgStep = 0 ∧ r.cfgInc = 0#16
      ∧ r.cfgLim = 0#16 ∧ r.cfgAct = false)
    ∧ (r.st ≠ 0#3 → r.st ≠ 7#3 →
        r.cfgCh = 0#2 ∧ 1 ≤ r.cfgNsamp ∧ r.cfgNsamp ≤ p.maxSamples ∧ (r.cfgAct = false → r.cmd = p.cmdInit)
        ∧ (r.cfgAct = true →
            1 ≤ r.cfgStep ∧ r.cfgStep ≤ p.maxStep ∧ r.cfgInc ≠ 0x8000#16
            ∧ r.cfgLim.toNat + r.cfgInc.toInt.natAbs ≤ 32767
            ∧ r.cmd.toInt.natAbs ≤ r.cfgLim.toNat + r.cfgInc.toInt.natAbs))

/-- R36, R37, R41: the counters and counts fit in W_CNT bits and the seconds in W_SEC bits. -/
abbrev WidthsOk (p : Params) (r : Regs) : Prop :=
  (r.nit < 2 ^ p.wCnt ∧ r.nem < 2 ^ p.wCnt ∧ r.nsk < 2 ^ p.wCnt ∧ r.sct < 2 ^ p.wCnt ∧ r.polls < 2 ^ p.wCnt
      ∧ r.cfgNsamp < 2 ^ p.wCnt ∧ r.cfgStep < 2 ^ p.wCnt)
    ∧ r.t0s < 2 ^ p.wSec ∧ r.tss < 2 ^ p.wSec

/-- R36: the time registers hold nanoseconds below one second from the step that captures them on. -/
abbrev TimesOk (r : Regs) : Prop :=
  (r.st = 1#3 ∧ r.ph ≠ 0#4 ∨ r.st = 2#3 ∨ r.st = 3#3 ∨ r.st = 4#3 ∨ r.st = 5#3 ∨ r.st = 6#3 →
      r.t0n.toNat ≤ 999999999)
    ∧ (r.st = 3#3 ∧ r.ph = 3#4 → r.tsn.toNat ≤ 999999999)

/-- R222: between the reading and its emission MAG and EF are those of HI and LO, and the sticky flags cover EF. -/
abbrev ReadingOk (r : Regs) : Prop :=
  r.st = 3#3 → 2#4 ≤ r.ph →
    r.mag = assembleMag r.hi r.lo ∧ r.ef = errorFlags r.hi ∧ r.efs ||| r.ef = r.efs

/-- The invariant of the machine. It bounds every state that a run from reset reaches, and every step keeps it. -/
structure Inv (s : State) : Prop where
  /-- The instance is a legal one (R13). -/
  legal : paramsLegal s.params = true
  /-- The program counter is a value of R259. -/
  listed : pcListed s.regs.st s.regs.ph = true
  /-- The device register memory is canonical. -/
  memory : s.env.regs.wf
  /-- The error record. -/
  errorRecord : ErrorRecordOk s.regs
  /-- The ownership flags. -/
  ownership : OwnershipOk s.regs
  /-- The counters. -/
  counters : CountersOk s.params s.regs
  /-- The widths that are parameters. -/
  widths : WidthsOk s.params s.regs
  /-- The configuration and the commanded value. -/
  config : ConfigOk s.params s.regs
  /-- The time registers. -/
  times : TimesOk s.regs
  /-- The reading about to be emitted. -/
  reading : ReadingOk s.regs

end Sys2Proof.Safety
end

