-- ==== Sys2Proof/Certificates/Slice0/Obligations.lean ====
section
/-! DEFINITION. The statements about the machine, for the provers. Each says which rule of the spec it formalises; a
statement that also rests on a choice of this model names the log entry. -/

open Sys2Proof Sys2Proof.Machine Sys2Proof.Safety

/-! ## Encoding -/

/-- R140 to R145: decoding the encoding of an instruction that the encoding can hold gives it back. -/
def Obligations.DecodeOfEncodeIsIdentity : Prop :=
  ∀ i : Instr, i.encodable = true → decode (encode i) = .ok i

/-- R140 to R145, the other direction: every word that decodes is the one encoding of what it decodes to, so no bit of it
is dropped. -/
def Obligations.EncodeOfDecodeIsIdentity : Prop :=
  ∀ (c : Code) (i : Instr), decode c = .ok i → i.encodable = true ∧ encode i = c

/-- R143: a word decodes to an operation exactly when it selects that operation's row, `W & mask = match`. -/
def Obligations.WordDecodesAsItsTableRow : Prop :=
  ∀ w : DrvWord,
    (w &&& 0xFF00FFFF#32 = 0x01000000#32 ↔ ∃ a, decodeDrv w = .ok (.rdreg a))
      ∧ (w &&& 0xFF000000#32 = 0x02000000#32 ↔ ∃ a d, decodeDrv w = .ok (.wrreg a d))
      ∧ (w &&& 0xFFFFFFFF#32 = 0x03000000#32 ↔ ∃ ch, decodeDrv w = .ok (.init ch))
      ∧ (w &&& 0xFFFFFFFF#32 = 0x04000000#32 ↔ ∃ ch, decodeDrv w = .ok (.rdch ch))
      ∧ (w &&& 0xFFFF0000#32 = 0x05000000#32 ↔ ∃ d, decodeDrv w = .ok (.verid d))
      ∧ (w &&& 0xFFFF0000#32 = 0x06000000#32 ↔ ∃ d, decodeDrv w = .ok (.swap16 d))

/-- R140, R141, R143: words of each family written out from the tables decode to the instructions they stand for. -/
def Obligations.WrittenOutWordsDecode : Prop :=
  decodeTableWord 32 0x017F0000 = some (.rdreg 0x7F#8) ∧ decodeTableWord 32 0x021A1601 = some (.wrreg 0x1A#8 0x1601#16)
    ∧ decodeTableWord 32 0x03000000 = some (.init 0#2) ∧ decodeTableWord 32 0x04000000 = some (.rdch 0#2)
    ∧ decodeTableWord 32 0x05003055 = some (.verid 0x3055#16)
    ∧ decodeTableWord 32 0x06003055 = some (.swap16 0x3055#16) ∧ decodeTableWord 8 0x19 = some (.stInitializing 9#4)
    ∧ decodeTableWord 8 0x33 = some (.stSampling 3#4) ∧ decodeTableWord 8 0x71 = some (.stAborted 1#4)

/-- From R145 (a) to (e): with the word first in the driver program and the state machine in IDLE, a reserved or illegal
DRV word is refused, and the step performs nothing. That a word reaches the driver through a driver program, in IDLE
and before the ST_IDLE handler, is the model's choice (DESIGN CHOICE, log entries 8 and 27). -/
def Obligations.IllegalDescriptorsAreRefused : Prop :=
  ∀ (s : State) (w : DrvWord) (rest : List DrvWord),
    paramsLegal s.params = true → s.host.rst = false → AtIdle s.regs → s.drv = w :: rest →
    (let op := w.extractLsb' 24 3
     let a := w.extractLsb' 16 8
     let d := w.extractLsb' 0 16
     op = 0#3 ∨ op = 7#3 ∨ w.extractLsb' 27 5 ≠ 0#5 ∨ op = 1#3 ∧ d ≠ 0#16
       ∨ (op = 3#3 ∨ op = 4#3) ∧ (d ≠ 0#16 ∨ a ≠ 0#8) ∨ (op = 5#3 ∨ op = 6#3) ∧ a ≠ 0#8
       ∨ (op = 1#3 ∨ op = 2#3) ∧ a ∉ s.params.regset) →
    ∃ why, step s = .refused why

/-! ## The byte order -/

/-- R17, R162: the swap exchanges the two bytes, is a bijection and is its own inverse. -/
def Obligations.SwapExchangesBytesAndIsItsOwnInverse : Prop :=
  (∀ v : Word16,
      (swap16 v).extractLsb' 8 8 = v.extractLsb' 0 8 ∧ (swap16 v).extractLsb' 0 8 = v.extractLsb' 8 8
        ∧ swap16 (swap16 v) = v)
    ∧ Function.Bijective swap16

/-- R81, R82, R84: on the wire the first byte of a logical value is its high byte. -/
def Obligations.WireOrderIsBigEndian : Prop :=
  ∀ v : Word16, wireFirst (swap16 v) = v.extractLsb' 8 8 ∧ wireSecond (swap16 v) = v.extractLsb' 0 8

/-! ## The driver -/

/-- R161: SWAP16 returns its operand with the bytes exchanged; no transaction, no register, no flag. -/
def Obligations.Swap16ReturnsTheSwappedOperand : Prop :=
  ∀ (d : Word16) (s : State), ∃ t, exec (.swap16 d) s = .next t
    ∧ t.drvResult = some (.word ((d <<< 8) ||| (d >>> 8)))
    ∧ t.regs = s.regs ∧ t.diag = s.diag ∧ Silent s t

/-- R163: RDREG performs one read and returns the swapped word, or IoFailure; outside REGSET it is refused. -/
def Obligations.RdregReturnsTheLogicalValue : Prop :=
  ∀ (a : Addr) (s : State),
    (a ∈ s.params.regset → ∃ t, exec (.rdreg a) s = .next t
      ∧ Transacts .register [.busRead a (s.env.readAnswer a)] s t
      ∧ t.regs = s.regs ∧ t.diag = s.diag ∧ KeepsMemory s t
      ∧ (∀ w, s.env.readAnswer a = .ok w → t.drvResult = some (.word ((w <<< 8) ||| (w >>> 8))))
      ∧ (s.env.readAnswer a = .fail → t.drvResult = some (.ioFailure a none)))
    ∧ (a ∉ s.params.regset → exec (.rdreg a) s = .refused (.addressOutsideRegset a))

/-- R165: WRREG hands the swapped value to one write; outside REGSET it is refused. By R101, in the model's layout of the
mock bus (log entry 6), only the register's two bytes can change, and they hold the raw word where the write lands. -/
def Obligations.WrregHandsOverTheSwappedValue : Prop :=
  ∀ (a : Addr) (d : Word16) (s : State),
    (a ∈ s.params.regset → ∃ t, exec (.wrreg a d) s = .next t
      ∧ Transacts .register
          [.busWrite a ((d <<< 8) ||| (d >>> 8)) (s.env.writeAnswer a ((d <<< 8) ||| (d >>> 8)))] s t
      ∧ t.regs = s.regs ∧ t.diag = s.diag
      ∧ (s.env.writeAnswer a ((d <<< 8) ||| (d >>> 8)) = .ok → t.drvResult = some .unit)
      ∧ (s.env.writeAnswer a ((d <<< 8) ||| (d >>> 8)) = .fail → t.drvResult = some (.ioFailure a none))
      ∧ (∀ b, b ≠ regByte a → b ≠ regByte a + 1 → t.env.regs.readByte b = s.env.regs.readByte b)
      ∧ (s.env.stores = false → KeepsMemory s t)
      ∧ (s.env.stores = true → s.env.regs.wf → t.env.regs.readReg a = (d <<< 8) ||| (d >>> 8)))
    ∧ (a ∉ s.params.regset → exec (.wrreg a d) s = .refused (.addressOutsideRegset a))

/-- R164: on the mock bus a register that was just written reads back the logical value written. -/
def Obligations.WrittenRegisterReadsBack : Prop :=
  ∀ (a : Addr) (v : Word16) (s : State),
    a ∈ s.params.regset → s.env.transport = .mockBus → s.env.regQ = [] → s.env.regs.wf →
    ∃ t u, exec (.wrreg a v) s = .next t ∧ exec (.rdreg a) t = .next u ∧ u.drvResult = some (.word v)

/-- R167: INIT writes the table's entries in order, all of them when every write answers Ok; the first that answers Fail
ends the sequence and is reported with its address and step. `E k` is the environment after the first k writes. -/
def Obligations.InitWritesTheTableInOrder : Prop :=
  ∀ s : State,
    let tbl := s.params.initTable
    let E := fun k => (tbl.take k).foldl (fun e x => e.afterWrite x.1 (swap16 x.2)) s.env
    let answered := fun (x : Addr × Word16) (r : Ack) => Txn.busWrite x.1 (swap16 x.2) r
    ∃ t, exec (.init 0#2) s = .next t
      ∧ t.regs = s.regs ∧ t.diag = s.diag ∧ KeepsSurroundings s t
      ∧ (∀ b, (∀ x ∈ tbl, b ≠ regByte x.1 ∧ b ≠ regByte x.1 + 1) →
          t.env.regs.readByte b = s.env.regs.readByte b)
      ∧ ((∀ k x, tbl[k]? = some x → (E k).writeAnswer x.1 (swap16 x.2) = .ok) →
          t.drvResult = some .unit ∧ t.env = E tbl.length
            ∧ t.env.trace = s.env.trace ++ tbl.map (answered · .ok))
      ∧ (∀ k x, tbl[k]? = some x → (E k).writeAnswer x.1 (swap16 x.2) = .fail →
          (∀ j y, j < k → tbl[j]? = some y → (E j).writeAnswer y.1 (swap16 y.2) = .ok) →
          t.drvResult = some (.ioFailure x.1 (some k)) ∧ t.env = E (k + 1)
            ∧ t.env.trace = s.env.trace ++ (tbl.take k).map (answered · .ok) ++ [answered x .fail])

/-- R170, R126: RDCH reads the high register, then the low register, and joins 12 bits of the one with 16 of the other;
the top nibble is the flags. A failed read ends it. -/
def Obligations.RdchJoinsHighAndLow : Prop :=
  ∀ s : State,
    let m := s.params.aDataMsb
    let l := s.params.aDataLsb
    ∃ t, exec (.rdch 0#2) s = .next t ∧ t.regs = s.regs ∧ t.diag = s.diag ∧ KeepsMemory s t
      ∧ (s.env.readAnswer m = .fail →
          t.drvResult = some (.ioFailure m none) ∧ Transacts .register [.busRead m .fail] s t)
      ∧ (∀ w1, s.env.readAnswer m = .ok w1 → (s.env.afterRead m).readAnswer l = .fail →
          t.drvResult = some (.ioFailure l none)
            ∧ Transacts .register [.busRead m (.ok w1), .busRead l .fail] s t)
      ∧ (∀ w1 w2, s.env.readAnswer m = .ok w1 → (s.env.afterRead m).readAnswer l = .ok w2 →
          t.drvResult = some (.reading
              (((swap16 w1 &&& 0x0FFF#16).zeroExtend 28 <<< 16) ||| (swap16 w2).zeroExtend 28)
              ((swap16 w1 >>> 12).truncate 4))
            ∧ Transacts .register [.busRead m (.ok w1), .busRead l (.ok w2)] s t)

/-- R174: VERID reads the identity register once and compares all 16 bits with its operand. -/
def Obligations.VeridComparesTheIdentity : Prop :=
  ∀ (d : Word16) (s : State),
    let a := s.params.aDeviceId
    ∃ t, exec (.verid d) s = .next t ∧ Transacts .register [.busRead a (s.env.readAnswer a)] s t
      ∧ t.regs = s.regs ∧ t.diag = s.diag ∧ KeepsMemory s t
      ∧ (s.env.readAnswer a = .fail → t.drvResult = some (.ioFailure a none))
      ∧ (∀ w, s.env.readAnswer a = .ok w → swap16 w = d → t.drvResult = some .unit)
      ∧ (∀ w, s.env.readAnswer a = .ok w → swap16 w ≠ d →
          t.drvResult = some (.identityMismatch a d (swap16 w)))

/-- R145 (d): INIT and RDCH of a channel other than 0 are refused. -/
def Obligations.OtherChannelsAreRefused : Prop :=
  ∀ (ch : BitVec 2) (s : State), ch ≠ 0#2 →
    exec (.init ch) s = .refused (.channelNotZero ch) ∧ exec (.rdch ch) s = .refused (.channelNotZero ch)

/-- R160, R167, R170: no driver operation writes a register of the block; what it performs are at most six register
transactions. -/
def Obligations.DriverOperationsWriteNoRegister : Prop :=
  ∀ (i : Instr) (s t : State), i.drvOpCode.isSome = true → paramsLegal s.params = true → exec i s = .next t →
    t.regs = s.regs ∧ t.diag = s.diag ∧ KeepsSurroundings s t
      ∧ ∃ l, t.env.trace = s.env.trace ++ l ∧ l.length ≤ 6 ∧ ∀ x ∈ l, onRegister x = true

/-! ## Run start -/

/-- R200, R201: IDLE waits for `start`; then it latches the configuration and starts the run when it is valid, else it
aborts with ConfigValidationError. No transaction in any case. The port carries the counts in W_CNT bits (R61). -/
def Obligations.IdleTakesStartAndValidates : Prop :=
  ∀ s : State,
    let h := { s.host with
      sampleCount := s.host.sampleCount % 2 ^ s.params.wCnt, stepCount := s.host.stepCount % 2 ^ s.params.wCnt }
    let latched := { s.regs with
      cfgCh := h.channel, cfgNsamp := h.sampleCount, cfgStep := h.stepCount, cfgInc := h.cmdInc, cfgLim := h.cmdLimit,
      cfgAct := h.actEn }
    ∃ t, exec (.stIdle 0#4) s = .next t ∧ Silent s t ∧ t.diag = s.diag ∧ t.drvResult = s.drvResult
      ∧ (h.start = false → t.regs = s.regs)
      ∧ (h.start = true → ConfigurationValid s.params h →
          t.regs = { latched with cmd := s.params.cmdInit, actOwned := h.actEn, st := 1#3, ph := 0#4 })
      ∧ (h.start = true → ¬ ConfigurationValid s.params h →
          t.regs = { latched with
            err := 4#3, estate := 0#3, eph := 0#4, eaddr := 0#8, eexp := 0#16, eact := 0#16, st := 7#3, ph := 0#4 })

/-- R203: INITIALIZING phase 0 captures the time of run start, as the port answers it. -/
def Obligations.RunStartCapturesTheTime : Prop :=
  ∀ s : State,
    let now := s.env.timeAnswer s.params.wSec
    ∃ t n, exec (.stInitializing 0#4) s = .next t
      ∧ Transacts .time [.timeNow now] s t
      ∧ t.regs = { s.regs with t0s := now.sec, t0n := n, st := 1#3, ph := 1#4 }
      ∧ now.sec < 2 ^ s.params.wSec ∧ n.toNat = now.nsec.val
      ∧ t.diag = s.diag ∧ t.drvResult = s.drvResult ∧ KeepsMemory s t

/-- R204: INITIALIZING phase 1 opens the bus; a failure aborts with IoFailure at address 0. -/
def Obligations.RunStartOpensTheBus : Prop :=
  ∀ s : State, ∃ t, exec (.stInitializing 1#4) s = .next t
    ∧ Transacts .busOpen [.busOpen s.params.busAddress s.env.openAnswer] s t
    ∧ t.diag = s.diag ∧ t.drvResult = s.drvResult ∧ KeepsMemory s t
    ∧ (s.env.openAnswer = .ok → t.regs = { s.regs with busOwned := true, st := 1#3, ph := 2#4 })
    ∧ (s.env.openAnswer = .fail → t.regs = { s.regs with
        err := 1#3, estate := 1#3, eph := 1#4, eaddr := 0#8, eexp := 0#16, eact := 0#16, st := 7#3, ph := 0#4 })

/-- R205: INITIALIZING phase 2 creates the sink with the header line; a failure aborts with SinkWriteFailure. -/
def Obligations.RunStartOpensTheSink : Prop :=
  ∀ s : State, ∃ t, exec (.stInitializing 2#4) s = .next t
    ∧ Transacts .sinkOpen [.sinkOpen s.params.headerLine s.env.sinkOpenAnswer] s t
    ∧ t.diag = s.diag ∧ t.drvResult = s.drvResult ∧ KeepsMemory s t
    ∧ (s.env.sinkOpenAnswer = .ok → t.regs = { s.regs with sinkOpen := true, st := 1#3, ph := 3#4 })
    ∧ (s.env.sinkOpenAnswer = .fail → t.regs = { s.regs with
        err := 5#3, estate := 1#3, eph := 2#4, eaddr := 0#8, eexp := 0#16, eact := 0#16, st := 7#3, ph := 0#4 })

/-- R206: INITIALIZING phase 3 + k writes entry k of the table and goes on, or aborts with IoFailure at its address. -/
def Obligations.StartupWritesTheTableEntry : Prop :=
  ∀ (s : State) (ph : Phase) (a : Addr) (v : Word16),
    3#4 ≤ ph → ph ≤ 8#4 → s.params.initTable[ph.toNat - 3]? = some (a, v) →
    ∃ t, exec (.stInitializing ph) s = .next t
      ∧ Transacts .register [.busWrite a (swap16 v) (s.env.writeAnswer a (swap16 v))] s t
      ∧ t.diag = s.diag ∧ t.drvResult = s.drvResult
      ∧ (∀ b, b ≠ regByte a → b ≠ regByte a + 1 → t.env.regs.readByte b = s.env.regs.readByte b)
      ∧ (s.env.writeAnswer a (swap16 v) = .ok → t.regs = { s.regs with st := 1#3, ph := ph + 1#4 })
      ∧ (s.env.writeAnswer a (swap16 v) = .fail → t.regs = { s.regs with
          err := 1#3, estate := 1#3, eph := ph, eaddr := a, eexp := 0#16, eact := 0#16, st := 7#3, ph := 0#4 })

/-- R207: INITIALIZING phase 9 reads the identity and goes to POLLING when it is 0x3055, else aborts. -/
def Obligations.StartupChecksTheIdentity : Prop :=
  ∀ s : State,
    let a := s.params.aDeviceId
    ∃ t, exec (.stInitializing 9#4) s = .next t
      ∧ Transacts .register [.busRead a (s.env.readAnswer a)] s t
      ∧ t.diag = s.diag ∧ t.drvResult = s.drvResult ∧ KeepsMemory s t
      ∧ (s.env.readAnswer a = .fail → t.regs = { s.regs with
          err := 1#3, estate := 1#3, eph := 9#4, eaddr := a, eexp := 0#16, eact := 0#16, st := 7#3, ph := 0#4 })
      ∧ (∀ w, s.env.readAnswer a = .ok w → swap16 w = 0x3055#16 → t.regs = { s.regs with st := 2#3, ph := 0#4 })
      ∧ (∀ w, s.env.readAnswer a = .ok w → swap16 w ≠ 0x3055#16 → t.regs = { s.regs with
          err := 2#3, estate := 1#3, eph := 9#4, eaddr := a, eexp := 0x3055#16, eact := swap16 w, st := 7#3,
          ph := 0#4 })

/-! ## Polling, sampling, actuating -/

/-- R211, R212, R213: `stop_req` first, then the poll limit, then the status read and its single data-ready bit. -/
def Obligations.PollStepFollowsItsPriorities : Prop :=
  ∀ s : State,
    let a := s.params.aStatus
    let stop := s.params.hasStop = true ∧ s.host.stopReq = true
    let timeout := s.params.pollLimit ≠ 0 ∧ s.params.pollLimit ≤ s.regs.polls
    let more := min (s.regs.polls + 1) (2 ^ s.params.wCnt - 1)
    ∃ t, exec (.stPolling 0#4) s = .next t ∧ t.drvResult = s.drvResult ∧ KeepsMemory s t
      ∧ (stop → Silent s t ∧ t.diag = s.diag ∧ t.regs = { s.regs with st := 5#3, ph := 0#4 })
      ∧ (¬ stop → timeout → Silent s t ∧ t.diag = s.diag ∧ t.regs = { s.regs with
          err := 6#3, estate := 2#3, eph := 0#4, eaddr := a, eexp := 0#16, eact := 0#16, st := 7#3, ph := 0#4 })
      ∧ (¬ stop → ¬ timeout → Transacts .register [.busRead a (s.env.readAnswer a)] s t
          ∧ (s.env.readAnswer a = .fail →
              t.regs = { s.regs with polls := more } ∧ t.diag = s.diag ++ [.pollfailEvt])
          ∧ (∀ w, s.env.readAnswer a = .ok w → swap16 w &&& s.params.drdyMask ≠ 0#16 →
              t.regs = { s.regs with stat := swap16 w, polls := 0, st := 3#3, ph := 0#4 } ∧ t.diag = s.diag)
          ∧ (∀ w, s.env.readAnswer a = .ok w → swap16 w &&& s.params.drdyMask = 0#16 →
              t.regs = { s.regs with stat := swap16 w, polls := more } ∧ t.diag = s.diag))

/-- R221: SAMPLING phase 0 reads the high register into HI; a failed read skips the sample. -/
def Obligations.SamplingReadsTheHighRegister : Prop :=
  ∀ s : State,
    let a := s.params.aDataMsb
    ∃ t, exec (.stSampling 0#4) s = .next t ∧ Transacts .register [.busRead a (s.env.readAnswer a)] s t
      ∧ t.drvResult = s.drvResult ∧ KeepsMemory s t
      ∧ (∀ w, s.env.readAnswer a = .ok w →
          t.regs = { s.regs with hi := swap16 w, st := 3#3, ph := 1#4 } ∧ t.diag = s.diag)
      ∧ (s.env.readAnswer a = .fail → t = skip a (s.afterMemRead a))

/-- R222: SAMPLING phase 1 reads the low register, assembles the magnitude, extracts the flags, adds them to the sticky
flags and warns when one is set; a failed read skips the sample and writes none of these. -/
def Obligations.SamplingReadsTheLowRegister : Prop :=
  ∀ s : State,
    let a := s.params.aDataLsb
    let ef : Nibble := (s.regs.hi >>> 12).truncate 4
    ∃ t, exec (.stSampling 1#4) s = .next t ∧ Transacts .register [.busRead a (s.env.readAnswer a)] s t
      ∧ t.drvResult = s.drvResult ∧ KeepsMemory s t
      ∧ (∀ w, s.env.readAnswer a = .ok w →
          t.regs = { s.regs with
            lo := swap16 w, ef := ef
            mag := ((s.regs.hi &&& 0x0FFF#16).zeroExtend 28 <<< 16) ||| (swap16 w).zeroExtend 28
            efs := s.regs.efs ||| ef, st := 3#3, ph := 2#4 }
          ∧ (ef = 0#4 → t.diag = s.diag) ∧ (ef ≠ 0#4 → t.diag = s.diag ++ [.warnEvt ef]))
      ∧ (s.env.readAnswer a = .fail → t = skip a (s.afterMemRead a))

/-- R223: SAMPLING phase 2 subtracts the time of run start with a borrow from the seconds, modulo 2^W_SEC; with both
nanoseconds below one second the result is below one second. -/
def Obligations.SamplingStampsTheElapsedTime : Prop :=
  ∀ s : State,
    let now := s.env.timeAnswer s.params.wSec
    let n := now.nsec.val
    ∃ t tss tsn, exec (.stSampling 2#4) s = .next t ∧ Transacts .time [.timeNow now] s t
      ∧ t.regs = { s.regs with tss := tss, tsn := tsn, st := 3#3, ph := 3#4 }
      ∧ t.diag = s.diag ∧ t.drvResult = s.drvResult ∧ KeepsMemory s t
      ∧ (s.regs.t0n.toNat ≤ n →
          (tss : Int) = ((now.sec : Int) - s.regs.t0s) % 2 ^ s.params.wSec ∧ tsn.toNat = n - s.regs.t0n.toNat)
      ∧ (n < s.regs.t0n.toNat → (tss : Int) = ((now.sec : Int) - s.regs.t0s - 1) % 2 ^ s.params.wSec)
      ∧ (n < s.regs.t0n.toNat → s.regs.t0n.toNat ≤ 999999999 →
          tsn.toNat = n + 1000000000 - s.regs.t0n.toNat)
      ∧ (s.regs.t0n.toNat ≤ 999999999 → tsn.toNat ≤ 999999999)

/-- R223: with times of W_SEC bits that do not decrease the stamp is the true elapsed time, and a later answer never gets
a smaller stamp. -/
def Obligations.ElapsedTimeIsTrueAndMonotone : Prop :=
  ∀ (w s0 s1 s2 : Nat) (n0 n1 n2 : Nsec),
    s0 < 2 ^ w → s1 < 2 ^ w → s2 < 2 ^ w →
    n0.toNat ≤ 999999999 → n1.toNat ≤ 999999999 → n2.toNat ≤ 999999999 →
    nanoseconds s0 n0 ≤ nanoseconds s1 n1 → nanoseconds s1 n1 ≤ nanoseconds s2 n2 →
    let e1 := elapsed w s0 s1 n0 n1
    let e2 := elapsed w s0 s2 n0 n2
    nanoseconds e1.1 e1.2 = nanoseconds s1 n1 - nanoseconds s0 n0
      ∧ e1.2.toNat ≤ 999999999 ∧ nanoseconds e1.1 e1.2 ≤ nanoseconds e2.1 e2.2

/-- R224, R130, R131: SAMPLING phase 3 emits the record of the channel, the elapsed time, the magnitude and the flags; Ok
counts it and ends the iteration, Fail aborts with SinkWriteFailure. The text line of the record (made by the sink, log
entry 23) is channel, seconds, nanoseconds in nine digits and magnitude, in decimal. -/
def Obligations.SamplingEmitsTheRecord : Prop :=
  ∀ s : State,
    let r : Sample := ⟨s.regs.cfgCh, s.regs.tss, s.regs.tsn, s.regs.mag, s.regs.ef⟩
    ∃ t, exec (.stSampling 3#4) s = .next t ∧ Transacts .emit [.sinkEmit r (s.env.emitAnswer r)] s t
      ∧ t.diag = s.diag ∧ t.drvResult = s.drvResult ∧ KeepsMemory s t
      ∧ (s.env.emitAnswer r = .ok →
          t.regs = (advance { s with regs := { s.regs with nem := (s.regs.nem + 1) % 2 ^ s.params.wCnt } }).regs)
      ∧ (s.env.emitAnswer r = .fail → t.regs = { s.regs with
          err := 5#3, estate := 3#3, eph := 3#4, eaddr := 0#8, eexp := 0#16, eact := 0#16, st := 7#3, ph := 0#4 })
      ∧ (s.regs.tsn.toNat ≤ 999999999 → ∃ digits : List Char,
          digits.length = 9 ∧ (∀ c ∈ digits, c.isDigit = true)
            ∧ digits.foldl (fun n c => 10 * n + (c.toNat - '0'.toNat)) 0 = s.regs.tsn.toNat
            ∧ r.line = toString s.regs.cfgCh.toNat ++ ", " ++ toString s.regs.tss ++ "." ++ String.ofList digits ++ ", "
              ++ toString s.regs.mag.toNat)

/-- R226: a skipped sample is counted in NSK, reported with the address, and ends the iteration like any other. -/
def Obligations.SkipCountsReportsAndAdvances : Prop :=
  ∀ (a : Addr) (s : State),
    (skip a s).regs = (advance { s with regs := { s.regs with nsk := (s.regs.nsk + 1) % 2 ^ s.params.wCnt } }).regs
      ∧ (skip a s).diag = s.diag ++ [.skipEvt a] ∧ Silent s (skip a s) ∧ (skip a s).drvResult = s.drvResult

/-- R230, R231: the end of an iteration counts it, ends the run when the sample count is exhausted, and otherwise goes to
ACTUATING at a step boundary, else to POLLING. -/
def Obligations.AdvanceChoosesTheNextState : Prop :=
  ∀ s : State,
    let r := s.regs
    let nit := (r.nit + 1) % 2 ^ s.params.wCnt
    let sct := if r.cfgAct = true then (r.sct + 1) % 2 ^ s.params.wCnt else r.sct
    let t := advance s
    Silent s t ∧ t.diag = s.diag ∧ t.drvResult = s.drvResult
      ∧ (nit = r.cfgNsamp → t.regs = { r with nit := nit, sct := sct, st := 5#3, ph := 0#4 })
      ∧ (nit ≠ r.cfgNsamp → r.cfgAct = true → sct = r.cfgStep →
          t.regs = { r with nit := nit, sct := 0, st := 4#3, ph := 0#4 })
      ∧ (nit ≠ r.cfgNsamp → ¬ (r.cfgAct = true ∧ sct = r.cfgStep) →
          t.regs = { r with nit := nit, sct := sct, st := 2#3, ph := 0#4 })

/-- R241: ACTUATING ends the run with nothing sent when the magnitude of CMD exceeds the limit; otherwise it sends the
vector, every element swapped, and increments CMD. -/
def Obligations.ActuatingTestsSendsAndIncrements : Prop :=
  ∀ s : State,
    let vec := (List.range s.params.nAct).map fun i => swap16 (cmdElementOf s.params.cmdDerive i s.regs.cmd)
    ∃ t, exec (.stActuating 0#4) s = .next t ∧ t.diag = s.diag ∧ t.drvResult = s.drvResult ∧ KeepsMemory s t
      ∧ (s.regs.cfgLim.toNat < s.regs.cmd.toInt.natAbs →
          Silent s t ∧ t.regs = { s.regs with st := 5#3, ph := 0#4 })
      ∧ (s.regs.cmd.toInt.natAbs ≤ s.regs.cfgLim.toNat →
          Transacts .send [.actSend vec (s.env.sendAnswer vec)] s t
          ∧ (∀ n, s.env.sendAnswer vec = .ok n →
              t.regs = { s.regs with cmd := s.regs.cmd + s.regs.cfgInc, st := 2#3, ph := 0#4 })
          ∧ (s.env.sendAnswer vec = .fail → t.regs = { s.regs with
              err := 5#3, estate := 4#3, eph := 0#4, eaddr := 0#8, eexp := 0#16, eact := 0#16, st := 7#3,
              ph := 0#4 }))

/-- R242: under a validated configuration the sum of the commanded value and the increment never leaves 16 bits. -/
def Obligations.CommandSumNeverOverflows : Prop :=
  ∀ c inc lim : Word16, inc ≠ 0x8000#16 → lim.toNat + inc.toInt.natAbs ≤ 32767 → c.toInt.natAbs ≤ lim.toNat →
    (cmdNext c inc).toInt = c.toInt + inc.toInt ∧ (cmdNext c inc).toInt.natAbs ≤ 32767

/-- R46, R86, R243: the vector has N_ACT elements, each derived from CMD alone and swapped to network order; with the
default derivation every element is CMD. -/
def Obligations.CommandVectorHasOneElementPerChannel : Prop :=
  ∀ (p : Params) (c : Word16),
    (commandVector p c).length = p.nAct ∧ wireVector p c = (commandVector p c).map swap16
      ∧ (∀ i, i < p.nAct → (commandVector p c)[i]? = some (cmdElementOf p.cmdDerive i c))
      ∧ (p.cmdDerive = .broadcast → commandVector p c = List.replicate p.nAct c)

/-! ## Teardown -/

/-- R250, R251, R252: TERMINATING closes the sink once, releases the actuator when owned, then the bus, and is DONE; a
failed close enters ABORTED at phase 1. -/
def Obligations.TerminatingClosesAndReleases : Prop :=
  ∀ s : State,
    (∃ t, exec (.stTerminating 0#4) s = .next t ∧ Transacts .close [.sinkClose s.env.closeAnswer] s t
      ∧ t.diag = s.diag ∧ t.drvResult = s.drvResult ∧ KeepsMemory s t
      ∧ (s.env.closeAnswer = .ok → t.regs = { s.regs with sinkOpen := false, st := 5#3, ph := 1#4 })
      ∧ (s.env.closeAnswer = .fail → t.regs = { s.regs with
          sinkOpen := false, err := 5#3, estate := 5#3, eph := 0#4, eaddr := 0#8, eexp := 0#16, eact := 0#16,
          st := 7#3, ph := 1#4 }))
    ∧ (∃ t, exec (.stTerminating 1#4) s = .next t ∧ t.diag = s.diag ∧ t.drvResult = s.drvResult ∧ KeepsMemory s t
      ∧ t.regs = { s.regs with actOwned := false, st := 5#3, ph := 2#4 }
      ∧ (s.regs.actOwned = true → Transacts .none [.actRelease] s t) ∧ (s.regs.actOwned = false → Silent s t))
    ∧ (∃ t, exec (.stTerminating 2#4) s = .next t ∧ Transacts .none [.busRelease] s t
      ∧ t.diag = s.diag ∧ t.drvResult = s.drvResult ∧ KeepsMemory s t
      ∧ t.regs = { s.regs with busOwned := false, st := 6#3, ph := 0#4 })

/-- R255, R256, R257: ABORTED releases what the ownership flags show, and the error record is untouched, whatever the
sink answers. -/
def Obligations.AbortedReleasesWhatIsOwned : Prop :=
  ∀ s : State,
    (∃ t, exec (.stAborted 0#4) s = .next t ∧ t.diag = s.diag ∧ t.drvResult = s.drvResult ∧ KeepsMemory s t
      ∧ t.regs = { s.regs with sinkOpen := false, st := 7#3, ph := 1#4 }
      ∧ (s.regs.sinkOpen = true → Transacts .close [.sinkClose s.env.closeAnswer] s t)
      ∧ (s.regs.sinkOpen = false → Silent s t))
    ∧ (∃ t, exec (.stAborted 1#4) s = .next t ∧ t.diag = s.diag ∧ t.drvResult = s.drvResult ∧ KeepsMemory s t
      ∧ t.regs = { s.regs with actOwned := false, st := 7#3, ph := 2#4 }
      ∧ (s.regs.actOwned = true → Transacts .none [.actRelease] s t) ∧ (s.regs.actOwned = false → Silent s t))
    ∧ (∃ t, exec (.stAborted 2#4) s = .next t ∧ t.diag = s.diag ∧ t.drvResult = s.drvResult ∧ KeepsMemory s t
      ∧ t.regs = { s.regs with busOwned := false, st := 7#3, ph := 3#4 }
      ∧ (s.regs.busOwned = true → Transacts .none [.busRelease] s t) ∧ (s.regs.busOwned = false → Silent s t))

/-- R253, R258, R61: the handlers of the two final states change nothing. The output `done` is 1 exactly in DONE and
`aborted` exactly in the last phase of ABORTED; in a state of the invariant the first means a run without an error, the
second one with an error, and either that nothing is owned. -/
def Obligations.FinalHandlersChangeNothing : Prop :=
  ∀ s : State,
    exec (.stDone 0#4) s = .next s ∧ exec (.stAborted 3#4) s = .next s
      ∧ (doneOutput s.regs = true ↔ s.regs.st = 6#3)
      ∧ (abortedOutput s.regs = true ↔ s.regs.st = 7#3 ∧ s.regs.ph = 3#4)
      ∧ (Inv s → doneOutput s.regs = true → s.regs.err = 0#3)
      ∧ (Inv s → abortedOutput s.regs = true → s.regs.err ≠ 0#3)
      ∧ (Inv s → doneOutput s.regs = true ∨ abortedOutput s.regs = true →
          s.regs.busOwned = false ∧ s.regs.sinkOpen = false ∧ s.regs.actOwned = false)

/-- R146, U2: a pair (ST, PH) outside the table of R259 has no step (the model's fault, log entry 15). -/
def Obligations.UnlistedPhasesAreStuck : Prop :=
  ∀ (st : StCode) (ph : Phase) (s : State), pcListed st ph = false →
    exec (decodeFsm (pcCode st ph)) s = .fault (.unreachablePhase st ph)

/-! ## The step -/

/-- The step runs the decoded instruction: with legal parameters and `rst` low, in IDLE the first word of the driver
program, and with no program or outside IDLE the code (ST, PH), is decoded and executed. Before it the one-step outputs
are cleared and the word, if it is one, is taken; after it the host's next levels stand on the port, and the rest of the
program is dropped exactly when the operation returned an IdentityMismatch. The driver program, the host schedule, when a
word is taken and what follows an error are the model's choices (log entries 8, 13, 27 and 30). -/
def Obligations.StepRunsTheDecodedInstruction : Prop :=
  ∀ (s : State) (i : Instr), paramsLegal s.params = true → s.host.rst = false →
    ∀ rest : List DrvWord,
    (HandlerNext s ∧ decodeFsm (pcCode s.regs.st s.regs.ph) = i ∧ rest = s.drv
      ∨ AtIdle s.regs ∧ ∃ w, s.drv = w :: rest ∧ decodeDrv w = .ok i) →
    let s' := { s with drv := rest, diag := [], drvResult := none }
    (∀ t, exec i s' = .next t → ∃ left,
        step s = .next { t with drv := left, host := t.hostSched.headD t.host, hostSched := t.hostSched.tail }
          ∧ (∀ a e v, t.drvResult = some (.identityMismatch a e v) → left = [])
          ∧ ((∀ a e v, t.drvResult ≠ some (.identityMismatch a e v)) → left = rest))
      ∧ (∀ f, exec i s' = .fault f → step s = .fault f) ∧ (∀ r, exec i s' = .refused r → step s = .refused r)

/-- R13, R12: a parameter assignment that breaks a constraint of R13 or a range of R12 is refused, and no other is. That
the step refuses it is the model's reading (log entry 25). -/
def Obligations.IllegalParametersAreRefused : Prop :=
  ∀ s : State, ¬ ParamsConform s.params ↔ step s = .refused .illegalParameters

/-- R311, R310: a step with `rst` high sets the control registers to their reset values and performs no transaction on
any port. The data registers of R51 are not named. Three clauses are the model's: what was owned is recorded as left
unreleased (t.leak, DESIGN CHOICE, log entry 12, one of the two forms that R312 allows); the words of a driver program
survive the reset (t.drv = s.drv, DESIGN CHOICE, log entry 29, the spec says nothing of them and does not exclude that
they are dropped); the step raises no event and returns no result (t.diag = [] and t.drvResult = none, DEDUCED, log
entry 19). -/
def Obligations.ResetStepSetsTheControlRegisters : Prop :=
  ∀ s : State, paramsLegal s.params = true → s.host.rst = true →
    ∃ t, step s = .next t ∧ ControlReset t.regs ∧ t.env.trace = s.env.trace ∧ Consumes .none 0 s.env t.env
      ∧ t.env.regs = s.env.regs ∧ t.env.transport = s.env.transport ∧ t.params = s.params ∧ t.drv = s.drv
      ∧ t.diag = [] ∧ t.drvResult = none
      ∧ t.leak = ⟨s.leak.bus || s.regs.busOwned, s.leak.sink || s.regs.sinkOpen, s.leak.act || s.regs.actOwned⟩

/-- R50, R52: the state after reset has the control registers at the values the spec gives, is IDLE, and has exchanged
nothing. -/
def Obligations.ResetStateHasTheSpecifiedValues : Prop :=
  ControlReset State.reset.regs ∧ State.reset.drv = [] ∧ State.reset.env.trace = [] ∧ State.reset.diag = []

/-- R18, R259, R295: a step of a state handler performs at most one external transaction, one that the table of R259
gives to its (ST, PH), whatever the host raises; R311: a reset step performs none. The clause t.drv = s.drv, that
neither adds a word to the driver program or takes one from it, is the model's: after a reset step it is the DESIGN
CHOICE of log entry 29 (the spec does not exclude that the words are dropped), after a handler step that of log
entries 8 and 27 (words wait outside IDLE). -/
def Obligations.HandlerStepPerformsAtMostOneTransaction : Prop :=
  ∀ s t : State, HandlerNext s ∨ s.host.rst = true → step s = .next t →
    t.drv = s.drv
      ∧ (t.env.trace = s.env.trace
        ∨ s.host.rst = false
          ∧ ∃ x, t.env.trace = s.env.trace ++ [x] ∧ transactionListed s.params s.regs.st s.regs.ph x)

/-- R105, R110: no step withdraws, changes or reorders a transaction that was performed. -/
def Obligations.PerformedTransactionsStay : Prop :=
  ∀ s t : State, step s = .next t → ∃ l, t.env.trace = s.env.trace ++ l

/-- R259: every step of a state handler goes to a successor that the table lists. -/
def Obligations.StepFollowsTheControlFlowGraph : Prop :=
  ∀ s t : State, RunsHandler s → step s = .next t →
    (t.regs.st, t.regs.ph) ∈ successors s.params s.regs.st s.regs.ph

/-- R95, R259: at every listed program counter value the block has a step, whatever the environment answers. -/
def Obligations.NoListedStateIsStuck : Prop :=
  ∀ s : State, RunsHandler s → pcListed s.regs.st s.regs.ph = true → ∃ t, step s = .next t

/-- The invariant of the machine: every step from a state that has it leads to a state that has it. -/
def Obligations.EveryStepKeepsTheInvariant : Prop :=
  ∀ s t : State, Inv s → step s = .next t → Inv t

/-- The invariant holds after reset. It rests on the assignment T and the empty environment that State.reset carries (log
entries 1 and 5). -/
def Obligations.ResetHasTheInvariant : Prop := Inv State.reset

/-- Every run from reset, whatever stands behind the ports, whatever the host does and with any driver program, stays
inside the invariant. -/
def Obligations.EveryRunStaysInTheInvariant : Prop :=
  ∀ (n : Nat) (p : Params) (h : HostIn) (sched : List HostIn) (e : Env) (d : List DrvWord) (t : State),
    paramsLegal p = true → e.regs.wf →
    Host.Core.run Sys2Proof.core n
      { State.reset with params := p, host := h, hostSched := sched, env := e, drv := d } = .next t → Inv t

/-! ## Whole-machine rules -/

/-- R280, R269: a step that enters ABORTED records the code of the error, the state and phase of the step, the address
involved (0 when there is none), and for an identity mismatch the expected and the actual value (0 for another error). It
changes no counter, commanded value, sticky flag, data register or ownership flag, but for the sink closed in
TERMINATING, no configuration register but in IDLE, which latches what is offered (R200), and raises no event. -/
def Obligations.FatalErrorEntryRecordsTheError : Prop :=
  ∀ s t : State, RunsHandler s → s.regs.st ≠ 7#3 → step s = .next t → t.regs.st = 7#3 →
    t.regs.estate = s.regs.st ∧ t.regs.eph = s.regs.ph ∧ t.regs.ph = (if s.regs.st = 5#3 then 1#4 else 0#4)
      ∧ (s.regs.st = 0#3 → t.regs.err = 4#3) ∧ (s.regs.st = 2#3 → t.regs.err = 6#3)
      ∧ (s.regs.st = 1#3 → s.regs.ph = 2#4 → t.regs.err = 5#3)
      ∧ (s.regs.st = 1#3 → s.regs.ph ≠ 2#4 → s.regs.ph ≠ 9#4 → t.regs.err = 1#3)
      ∧ (s.regs.st = 1#3 → s.regs.ph = 9#4 → t.regs.err = 1#3 ∨ t.regs.err = 2#3)
      ∧ (s.regs.st = 3#3 ∨ s.regs.st = 4#3 ∨ s.regs.st = 5#3 → t.regs.err = 5#3)
      ∧ (s.regs.st ≠ 1#3 → s.regs.st ≠ 2#3 → t.regs.eaddr = 0#8)
      ∧ (s.regs.st = 1#3 → s.regs.ph ≤ 2#4 → t.regs.eaddr = 0#8)
      ∧ (s.regs.st = 1#3 → 3#4 ≤ s.regs.ph → s.regs.ph ≤ 8#4 →
          s.params.initTable[s.regs.ph.toNat - 3]?.map (·.1) = some t.regs.eaddr)
      ∧ (s.regs.st = 1#3 → s.regs.ph = 9#4 → t.regs.eaddr = s.params.aDeviceId)
      ∧ (s.regs.st = 2#3 → t.regs.eaddr = s.params.aStatus)
      ∧ (t.regs.err ≠ 2#3 → t.regs.eexp = 0#16 ∧ t.regs.eact = 0#16)
      ∧ (t.regs.err = 2#3 → t.regs.eexp = 0x3055#16 ∧ t.regs.eact ≠ 0x3055#16
          ∧ ∃ w, s.env.readAnswer s.params.aDeviceId = .ok w ∧ t.regs.eact = swap16 w)
      ∧ t.regs.hi = s.regs.hi ∧ t.regs.lo = s.regs.lo ∧ t.regs.mag = s.regs.mag ∧ t.regs.ef = s.regs.ef
      ∧ t.regs.efs = s.regs.efs ∧ t.regs.stat = s.regs.stat ∧ t.regs.t0s = s.regs.t0s ∧ t.regs.t0n = s.regs.t0n
      ∧ t.regs.tss = s.regs.tss ∧ t.regs.tsn = s.regs.tsn ∧ t.regs.nit = s.regs.nit ∧ t.regs.nem = s.regs.nem
      ∧ t.regs.nsk = s.regs.nsk ∧ t.regs.sct = s.regs.sct ∧ t.regs.polls = s.regs.polls ∧ t.regs.cmd = s.regs.cmd
      ∧ t.regs.busOwned = s.regs.busOwned ∧ t.regs.actOwned = s.regs.actOwned
      ∧ t.regs.sinkOpen = (s.regs.sinkOpen && decide (s.regs.st ≠ 5#3))
      ∧ (s.regs.st ≠ 0#3 →
          t.regs.cfgCh = s.regs.cfgCh ∧ t.regs.cfgNsamp = s.regs.cfgNsamp ∧ t.regs.cfgStep = s.regs.cfgStep
            ∧ t.regs.cfgInc = s.regs.cfgInc ∧ t.regs.cfgLim = s.regs.cfgLim ∧ t.regs.cfgAct = s.regs.cfgAct)
      ∧ (s.regs.st = 0#3 →
          t.regs.cfgCh = s.host.channel ∧ t.regs.cfgNsamp = s.host.sampleCount % 2 ^ s.params.wCnt
            ∧ t.regs.cfgStep = s.host.stepCount % 2 ^ s.params.wCnt ∧ t.regs.cfgInc = s.host.cmdInc
            ∧ t.regs.cfgLim = s.host.cmdLimit ∧ t.regs.cfgAct = s.host.actEn)
      ∧ t.diag = []

/-- R285, R286: after a fatal error only reset changes the error record or leaves ABORTED, and the only transactions are
`SinkClose`, `ActRelease` and `BusRelease`, at most one a step, with any driver program. -/
def Obligations.ErrorRecordIsWrittenOnce : Prop :=
  ∀ s t : State, s.host.rst = false → s.regs.st = 7#3 → step s = .next t →
    t.regs.st = 7#3 ∧ t.regs.err = s.regs.err ∧ t.regs.estate = s.regs.estate ∧ t.regs.eph = s.regs.eph
      ∧ t.regs.eaddr = s.regs.eaddr ∧ t.regs.eexp = s.regs.eexp ∧ t.regs.eact = s.regs.eact
      ∧ (t.env.trace = s.env.trace ∨ ∃ x, t.env.trace = s.env.trace ++ [x] ∧ onTeardown x = true)

/-- R253, R258, R312: only reset leaves DONE or the last phase of ABORTED; until then no register changes and no port is
used, whatever the host raises. -/
def Obligations.OnlyResetLeavesAFinalState : Prop :=
  ∀ s t : State, RunsHandler s → Final s.regs → step s = .next t → t.regs = s.regs ∧ t.env = s.env

/-- R41, R295: outside the step that takes `start`, and but for reset, the run configuration never changes. The disjunct
s.drv ≠ [] is the model's choice (DESIGN CHOICE, log entry 27): in IDLE a driver program goes before the ST_IDLE
handler, so while it has words nothing is latched even with `start` high. -/
def Obligations.ConfigurationIsConstantDuringARun : Prop :=
  ∀ s t : State, s.host.rst = false → s.regs.st ≠ 0#3 ∨ s.drv ≠ [] → step s = .next t →
    t.regs.cfgCh = s.regs.cfgCh ∧ t.regs.cfgNsamp = s.regs.cfgNsamp ∧ t.regs.cfgStep = s.regs.cfgStep
      ∧ t.regs.cfgInc = s.regs.cfgInc ∧ t.regs.cfgLim = s.regs.cfgLim ∧ t.regs.cfgAct = s.regs.cfgAct

/-- R12, R108: no step changes a parameter, the initialization table among them. -/
def Obligations.ParametersNeverChange : Prop :=
  ∀ s t : State, step s = .next t → t.params = s.params

/-- R232: in a run without the actuator, ACTUATING is never entered, SCT stays 0, CMD never changes and the ACT port is
never used. -/
def Obligations.RunWithoutActuatorNeverActuates : Prop :=
  ∀ s t : State, Inv s → RunsHandler s → s.regs.st ≠ 0#3 → s.regs.cfgAct = false → step s = .next t →
    t.regs.st ≠ 4#3 ∧ t.regs.sct = 0 ∧ t.regs.cmd = s.regs.cmd
      ∧ ∃ l, t.env.trace = s.env.trace ++ l ∧ ∀ x ∈ l, onActPort x = false

/-- R168, R321: the only register writes of the state machine are those of INITIALIZING phases 3 to 8, and the one to
the activation register is the last of them. -/
def Obligations.ActivationRegisterIsWrittenLast : Prop :=
  ∀ (s t : State) (a : Addr) (raw : Word16) (r : Ack), RunsHandler s → step s = .next t →
    t.env.trace = s.env.trace ++ [.busWrite a raw r] →
    s.regs.st = 1#3 ∧ 3#4 ≤ s.regs.ph ∧ s.regs.ph ≤ 8#4 ∧ (a = s.params.aConfig ↔ s.regs.ph = 8#4)

/-- R320: the state machine is about to read the low register only right after a successful read of the high register,
whose logical value is in HI. -/
def Obligations.LowReadFollowsTheHighRead : Prop :=
  ∀ s t : State, RunsHandler s → step s = .next t → t.regs.st = 3#3 → t.regs.ph = 1#4 →
    s.regs.st = 3#3 ∧ s.regs.ph = 0#4
      ∧ ∃ w, t.env.trace = s.env.trace ++ [.busRead s.params.aDataMsb (.ok w)] ∧ t.regs.hi = swap16 w

/-- R323: SAMPLING is entered only by a poll whose status word showed data-ready. -/
def Obligations.SamplingFollowsDataReady : Prop :=
  ∀ s t : State, RunsHandler s → step s = .next t → t.regs.st = 3#3 → t.regs.ph = 0#4 →
    s.regs.st = 2#3
      ∧ ∃ w, t.env.trace = s.env.trace ++ [.busRead s.params.aStatus (.ok w)]
          ∧ swap16 w &&& s.params.drdyMask ≠ 0#16

/-- R43, R222, R225: the error flags of a reading never change the control flow, the magnitude or a counter. Take two
states that differ only in the flags: the top nibble of HI, EF and EFS. The low read and the time stamp leave two states
that still differ only there, but for the warning and the record of the transactions; and two readings whose emission
gets the same answer are counted and advance alike, a flagged one like any other. -/
def Obligations.ErrorFlagsNeverSteer : Prop :=
  ∀ (s : State) (flags ef efs : Nibble),
    let s' := { s with regs := { s.regs with hi := flags ++ s.regs.hi.extractLsb' 0 12, ef := ef, efs := efs } }
    let alike := fun t t' : State =>
      { t'.regs with hi := t.regs.hi, ef := t.regs.ef, efs := t.regs.efs } = t.regs
    let r : Sample := ⟨s.regs.cfgCh, s.regs.tss, s.regs.tsn, s.regs.mag, s.regs.ef⟩
    (∃ t t', exec (.stSampling 1#4) s = .next t ∧ exec (.stSampling 1#4) s' = .next t' ∧ t'.env = t.env ∧ alike t t')
      ∧ (∃ t t', exec (.stSampling 2#4) s = .next t ∧ exec (.stSampling 2#4) s' = .next t' ∧ t'.env = t.env
        ∧ t'.diag = t.diag ∧ alike t t')
      ∧ (s.env.emitAnswer { r with ef := ef } = s.env.emitAnswer r →
          ∃ t t', exec (.stSampling 3#4) s = .next t ∧ exec (.stSampling 3#4) s' = .next t' ∧ alike t t'
            ∧ t'.diag = t.diag ∧ t.env.trace = s.env.trace ++ [.sinkEmit r (s.env.emitAnswer r)]
            ∧ t'.env = { t.env with
              trace := s.env.trace ++ [.sinkEmit { r with ef := ef } (s.env.emitAnswer r)] }
            ∧ (s.env.emitAnswer r = .ok →
                t'.regs.nem = (s.regs.nem + 1) % 2 ^ s.params.wCnt ∧ t'.regs.nit = (s.regs.nit + 1) % 2 ^ s.params.wCnt))

/-- R214, R325: without a poll limit and with no stop request the wait has no end: for as long as the status reads, whoever
answers them, fail or show no data-ready, the machine polls and stays in POLLING, for any number of steps. -/
def Obligations.WaitForDataReadyIsUnbounded : Prop :=
  ∀ (n : Nat) (s : State), RunsHandler s → s.regs.st = 2#3 → s.regs.ph = 0#4 → s.params.pollLimit = 0 →
    (∀ h ∈ s.host :: s.hostSched, h.rst = false ∧ ¬ (s.params.hasStop = true ∧ h.stopReq = true)) →
    let a := s.params.aStatus
    let E := fun k => (Env.afterRead a)^[k] s.env
    (∀ k < n, (E k).readAnswer a = .fail
      ∨ ∃ w, (E k).readAnswer a = .ok w ∧ swap16 w &&& s.params.drdyMask = 0#16) →
    ∃ t, Host.Core.run Sys2Proof.core n s = .next t ∧ t.regs.st = 2#3 ∧ t.regs.ph = 0#4 ∧ t.env = E n
      ∧ t.env.trace.length = s.env.trace.length + n ∧ t.regs.nit = s.regs.nit ∧ t.regs.err = s.regs.err

/-- R249 to R258: every exit releases what the run acquired. Three steps from the entry of TERMINATING, or of ABORTED at
phase 0, the machine is in a final state with all three ownership flags 0; what it performed on the way is the close of
the sink when it was open, then the release of the actuator when it was owned, then the release of the bus when it was
owned, each once and nothing else; and an error already recorded is kept. -/
def Obligations.EveryExitReleasesTheResources : Prop :=
  ∀ s : State, Inv s → RunsHandler s → s.hostSched = [] → s.regs.ph = 0#4 → s.regs.st = 5#3 ∨ s.regs.st = 7#3 →
    ∃ t, Host.Core.run Sys2Proof.core 3 s = .next t ∧ Final t.regs
      ∧ t.regs.busOwned = false ∧ t.regs.sinkOpen = false ∧ t.regs.actOwned = false
      ∧ t.env.trace = s.env.trace ++ (if s.regs.sinkOpen then [.sinkClose s.env.closeAnswer] else [])
          ++ (if s.regs.actOwned then [.actRelease] else []) ++ (if s.regs.busOwned then [.busRelease] else [])
      ∧ (s.regs.st = 7#3 → t.regs.st = 7#3 ∧ t.regs.err = s.regs.err)
      ∧ (s.regs.st = 5#3 → s.env.closeAnswer = .ok → t.regs.st = 6#3 ∧ t.regs.err = 0#3)
      ∧ (s.regs.st = 5#3 → s.env.closeAnswer = .fail → t.regs.st = 7#3 ∧ t.regs.err = 5#3)
end

