-- ==== Sys2Proof/Laws/Memory.lean ====
section
/-! SUPPORT. The device register memory: every operation keeps the canonical form, a read after a write to the same place
gives the value written, and a write leaves every other byte alone. -/

namespace Sys2Proof.Machine

theorem Memory.wf_nil : Memory.wf [] := ⟨List.Pairwise.nil, by simp⟩

/-- The tail of a canonical memory is canonical. -/
theorem Memory.wf_tail {c : Host.Cell} {m : Memory} (h : Memory.wf (c :: m)) : Memory.wf m :=
  ⟨(List.pairwise_cons.mp h.1).2, fun d hd => h.2 d (List.mem_cons_of_mem _ hd)⟩

/-- Every entry that a write leaves behind is an old one or the one written. -/
theorem Memory.mem_writeByte {m : Memory} {a : Nat} {v : Byte} {c : Host.Cell} (h : c ∈ m.writeByte a v) :
    c ∈ m ∨ (c = (a, v) ∧ v ≠ unlistedByte) := by
  induction m with
  | nil => simp only [Memory.writeByte] at h; split at h <;> simp_all
  | cons d rest ih =>
    obtain ⟨k, b⟩ := d
    simp only [Memory.writeByte] at h
    split_ifs at h with h1 hv h2 hv'
    · exact .inl h
    · rcases List.mem_cons.mp h with rfl | h
      · exact .inr ⟨rfl, hv⟩
      · exact .inl h
    · exact .inl (List.mem_cons_of_mem _ h)
    · rcases List.mem_cons.mp h with rfl | h
      · exact .inr ⟨rfl, hv'⟩
      · exact .inl (List.mem_cons_of_mem _ h)
    · rcases List.mem_cons.mp h with rfl | h
      · exact .inl List.mem_cons_self
      · exact (ih h).imp_left (List.mem_cons_of_mem _)

/-- Writing a byte inside the register space keeps the canonical form. -/
theorem Memory.wf_writeByte {m : Memory} (h : m.wf) {a : Nat} (ha : a < 512) (v : Byte) : (m.writeByte a v).wf := by
  refine ⟨?_, fun c hc => (Memory.mem_writeByte hc).elim (h.2 c) fun e => by rw [e.1]; exact ⟨e.2, ha⟩⟩
  have hp := h.1
  clear h
  induction m with
  | nil => simp only [Memory.writeByte]; split <;> simp
  | cons d rest ih =>
    obtain ⟨k, b⟩ := d
    obtain ⟨hk, hr⟩ := List.pairwise_cons.mp hp
    simp only [Memory.writeByte]
    split_ifs with h1 hv h2 hv'
    · exact hp
    · refine List.pairwise_cons.mpr ⟨fun x hx => ?_, hp⟩
      rcases List.mem_cons.mp hx with rfl | hx
      · exact h1
      · exact h1.trans (hk x hx)
    · exact hr
    · subst h2; exact List.pairwise_cons.mpr ⟨hk, hr⟩
    · refine List.pairwise_cons.mpr ⟨fun x hx => ?_, ih hr⟩
      rcases Memory.mem_writeByte hx with hx | ⟨rfl, -⟩
      · exact hk x hx
      · dsimp only; omega

/-- A byte below every listed address is unlisted. -/
theorem Memory.readByte_of_lt {m : Memory} {a : Nat} (h : ∀ c ∈ m, a < c.1) : m.readByte a = unlistedByte := by
  induction m with
  | nil => rfl
  | cons d rest ih =>
    have hd := h d List.mem_cons_self
    simp only [Memory.readByte]
    rw [if_neg (by omega), ih fun c hc => h c (List.mem_cons_of_mem _ hc)]

/-- Reading the byte just written gives the value written. -/
theorem Memory.readByte_writeByte_self {m : Memory} (h : m.wf) (a : Nat) (v : Byte) :
    (m.writeByte a v).readByte a = v := by
  have hp := h.1
  clear h
  induction m with
  | nil => simp only [Memory.writeByte]; split <;> simp_all [Memory.readByte]
  | cons d rest ih =>
    obtain ⟨k, b⟩ := d
    obtain ⟨hk, hr⟩ := List.pairwise_cons.mp hp
    simp only [Memory.writeByte]
    split_ifs with h1 hv h2 hv'
    · rw [hv]
      refine Memory.readByte_of_lt fun c hc => ?_
      rcases List.mem_cons.mp hc with rfl | hc
      · exact h1
      · exact h1.trans (hk c hc)
    · simp [Memory.readByte]
    · rw [hv']; exact Memory.readByte_of_lt fun c hc => h2 ▸ hk c hc
    · simp [Memory.readByte]
    · simp only [Memory.readByte]; rw [if_neg (by omega)]; exact ih hr

/-- A write leaves every other byte alone. -/
theorem Memory.readByte_writeByte_of_ne {m : Memory} {a b : Nat} (v : Byte) (hne : b ≠ a) :
    (m.writeByte a v).readByte b = m.readByte b := by
  induction m with
  | nil => simp only [Memory.writeByte]; split <;> simp [Memory.readByte, Ne.symm hne]
  | cons d rest ih =>
    obtain ⟨k, c⟩ := d
    simp only [Memory.writeByte]
    split_ifs with h1 hv h2 hv' <;> simp only [Memory.readByte]
    · rw [if_neg (Ne.symm hne)]
    · rw [if_neg (by omega)]
    · rw [if_neg (by omega), if_neg (by omega)]
    · rw [ih]

/-- The two bytes of a register lie inside the register space. -/
theorem regByte_lt (a : Addr) : regByte a + 1 < 512 := by
  have := a.isLt
  simp only [regByte]
  omega

/-- Storing a register keeps the canonical form. -/
theorem Memory.wf_writeReg {m : Memory} (h : m.wf) (a : Addr) (raw : Word16) : (m.writeReg a raw).wf :=
  Memory.wf_writeByte (Memory.wf_writeByte h (by have := regByte_lt a; omega) _) (regByte_lt a) _

/-- A raw word is made of its two wire bytes (R84). -/
theorem rawOfWire_wire (raw : Word16) : rawOfWire (wireFirst raw) (wireSecond raw) = raw := by
  simp only [rawOfWire, wireFirst, wireSecond]
  ext i hi
  simp only [BitVec.getElem_append, BitVec.getElem_extractLsb']
  split
  · simp [BitVec.getLsbD_eq_getElem hi]
  · rw [BitVec.getLsbD_eq_getElem (by omega)]
    congr 1
    omega

/-- Reading the register just stored gives the raw word stored. -/
theorem Memory.readReg_writeReg_self {m : Memory} (h : m.wf) (a : Addr) (raw : Word16) :
    (m.writeReg a raw).readReg a = raw := by
  have hw : (m.writeByte (regByte a) (wireFirst raw)).wf :=
    Memory.wf_writeByte h (by have := regByte_lt a; omega) _
  simp only [Memory.readReg, Memory.writeReg]
  rw [Memory.readByte_writeByte_self hw, Memory.readByte_writeByte_of_ne _ (by omega),
    Memory.readByte_writeByte_self h, rawOfWire_wire]

/-- Storing a register leaves every byte outside it alone. -/
theorem Memory.readByte_writeReg_of_ne {m : Memory} {a : Addr} {b : Nat} (raw : Word16) (h0 : b ≠ regByte a)
    (h1 : b ≠ regByte a + 1) : (m.writeReg a raw).readByte b = m.readByte b := by
  simp only [Memory.writeReg]
  rw [Memory.readByte_writeByte_of_ne _ h1, Memory.readByte_writeByte_of_ne _ h0]

end Sys2Proof.Machine
end

