-- ==== Sys2Proof/Laws/State.lean ====
section
/-! SUPPORT. For every named update of the state, one lemma per field, true by rfl and known to simp: what the update
writes and what it leaves. Later proofs cite these and unfold no record update. -/

namespace Sys2Proof.Machine


/-! ### Env.log -/

@[simp] theorem Env.log_transport (e : Env) (t : Txn) :
    (e.log t).transport = e.transport := rfl
@[simp] theorem Env.log_regs (e : Env) (t : Txn) :
    (e.log t).regs = e.regs := rfl
@[simp] theorem Env.log_regQ (e : Env) (t : Txn) :
    (e.log t).regQ = e.regQ := rfl
@[simp] theorem Env.log_openQ (e : Env) (t : Txn) :
    (e.log t).openQ = e.openQ := rfl
@[simp] theorem Env.log_timeQ (e : Env) (t : Txn) :
    (e.log t).timeQ = e.timeQ := rfl
@[simp] theorem Env.log_sinkOpenQ (e : Env) (t : Txn) :
    (e.log t).sinkOpenQ = e.sinkOpenQ := rfl
@[simp] theorem Env.log_emitQ (e : Env) (t : Txn) :
    (e.log t).emitQ = e.emitQ := rfl
@[simp] theorem Env.log_closeQ (e : Env) (t : Txn) :
    (e.log t).closeQ = e.closeQ := rfl
@[simp] theorem Env.log_sendQ (e : Env) (t : Txn) :
    (e.log t).sendQ = e.sendQ := rfl
@[simp] theorem Env.log_trace (e : Env) (t : Txn) :
    (e.log t).trace = e.trace ++ [t] := rfl
@[simp] theorem Env.log_draws (e : Env) (t : Txn) :
    (e.log t).draws = e.draws + 1 := rfl

/-! ### Env.afterOpen -/

@[simp] theorem Env.afterOpen_transport (e : Env) (n : Nat) :
    (e.afterOpen n).transport = e.transport := rfl
@[simp] theorem Env.afterOpen_regs (e : Env) (n : Nat) :
    (e.afterOpen n).regs = e.regs := rfl
@[simp] theorem Env.afterOpen_regQ (e : Env) (n : Nat) :
    (e.afterOpen n).regQ = e.regQ := rfl
@[simp] theorem Env.afterOpen_openQ (e : Env) (n : Nat) :
    (e.afterOpen n).openQ = e.openQ.tail := rfl
@[simp] theorem Env.afterOpen_timeQ (e : Env) (n : Nat) :
    (e.afterOpen n).timeQ = e.timeQ := rfl
@[simp] theorem Env.afterOpen_sinkOpenQ (e : Env) (n : Nat) :
    (e.afterOpen n).sinkOpenQ = e.sinkOpenQ := rfl
@[simp] theorem Env.afterOpen_emitQ (e : Env) (n : Nat) :
    (e.afterOpen n).emitQ = e.emitQ := rfl
@[simp] theorem Env.afterOpen_closeQ (e : Env) (n : Nat) :
    (e.afterOpen n).closeQ = e.closeQ := rfl
@[simp] theorem Env.afterOpen_sendQ (e : Env) (n : Nat) :
    (e.afterOpen n).sendQ = e.sendQ := rfl
@[simp] theorem Env.afterOpen_trace (e : Env) (n : Nat) :
    (e.afterOpen n).trace = e.trace ++ [.busOpen n e.openAnswer] := rfl
@[simp] theorem Env.afterOpen_draws (e : Env) (n : Nat) :
    (e.afterOpen n).draws = e.draws + 1 := rfl

/-! ### Env.afterRead -/

@[simp] theorem Env.afterRead_transport (e : Env) (a : Addr) :
    (e.afterRead a).transport = e.transport := rfl
@[simp] theorem Env.afterRead_regs (e : Env) (a : Addr) :
    (e.afterRead a).regs = e.regs := rfl
@[simp] theorem Env.afterRead_regQ (e : Env) (a : Addr) :
    (e.afterRead a).regQ = e.regQ.tail := rfl
@[simp] theorem Env.afterRead_openQ (e : Env) (a : Addr) :
    (e.afterRead a).openQ = e.openQ := rfl
@[simp] theorem Env.afterRead_timeQ (e : Env) (a : Addr) :
    (e.afterRead a).timeQ = e.timeQ := rfl
@[simp] theorem Env.afterRead_sinkOpenQ (e : Env) (a : Addr) :
    (e.afterRead a).sinkOpenQ = e.sinkOpenQ := rfl
@[simp] theorem Env.afterRead_emitQ (e : Env) (a : Addr) :
    (e.afterRead a).emitQ = e.emitQ := rfl
@[simp] theorem Env.afterRead_closeQ (e : Env) (a : Addr) :
    (e.afterRead a).closeQ = e.closeQ := rfl
@[simp] theorem Env.afterRead_sendQ (e : Env) (a : Addr) :
    (e.afterRead a).sendQ = e.sendQ := rfl
@[simp] theorem Env.afterRead_trace (e : Env) (a : Addr) :
    (e.afterRead a).trace = e.trace ++ [.busRead a (e.readAnswer a)] := rfl
@[simp] theorem Env.afterRead_draws (e : Env) (a : Addr) :
    (e.afterRead a).draws = e.draws + 1 := rfl

/-! ### Env.afterWrite -/

@[simp] theorem Env.afterWrite_transport (e : Env) (a : Addr) (raw : Word16) :
    (e.afterWrite a raw).transport = e.transport := rfl
@[simp] theorem Env.afterWrite_regs (e : Env) (a : Addr) (raw : Word16) :
    (e.afterWrite a raw).regs = e.regsAfterWrite a raw := rfl
@[simp] theorem Env.afterWrite_regQ (e : Env) (a : Addr) (raw : Word16) :
    (e.afterWrite a raw).regQ = e.regQ.tail := rfl
@[simp] theorem Env.afterWrite_openQ (e : Env) (a : Addr) (raw : Word16) :
    (e.afterWrite a raw).openQ = e.openQ := rfl
@[simp] theorem Env.afterWrite_timeQ (e : Env) (a : Addr) (raw : Word16) :
    (e.afterWrite a raw).timeQ = e.timeQ := rfl
@[simp] theorem Env.afterWrite_sinkOpenQ (e : Env) (a : Addr) (raw : Word16) :
    (e.afterWrite a raw).sinkOpenQ = e.sinkOpenQ := rfl
@[simp] theorem Env.afterWrite_emitQ (e : Env) (a : Addr) (raw : Word16) :
    (e.afterWrite a raw).emitQ = e.emitQ := rfl
@[simp] theorem Env.afterWrite_closeQ (e : Env) (a : Addr) (raw : Word16) :
    (e.afterWrite a raw).closeQ = e.closeQ := rfl
@[simp] theorem Env.afterWrite_sendQ (e : Env) (a : Addr) (raw : Word16) :
    (e.afterWrite a raw).sendQ = e.sendQ := rfl
@[simp] theorem Env.afterWrite_trace (e : Env) (a : Addr) (raw : Word16) :
    (e.afterWrite a raw).trace = e.trace ++ [.busWrite a raw (e.writeAnswer a raw)] := rfl
@[simp] theorem Env.afterWrite_draws (e : Env) (a : Addr) (raw : Word16) :
    (e.afterWrite a raw).draws = e.draws + 1 := rfl

/-! ### Env.afterRelease -/

@[simp] theorem Env.afterRelease_transport (e : Env) :
    (e.afterRelease).transport = e.transport := rfl
@[simp] theorem Env.afterRelease_regs (e : Env) :
    (e.afterRelease).regs = e.regs := rfl
@[simp] theorem Env.afterRelease_regQ (e : Env) :
    (e.afterRelease).regQ = e.regQ := rfl
@[simp] theorem Env.afterRelease_openQ (e : Env) :
    (e.afterRelease).openQ = e.openQ := rfl
@[simp] theorem Env.afterRelease_timeQ (e : Env) :
    (e.afterRelease).timeQ = e.timeQ := rfl
@[simp] theorem Env.afterRelease_sinkOpenQ (e : Env) :
    (e.afterRelease).sinkOpenQ = e.sinkOpenQ := rfl
@[simp] theorem Env.afterRelease_emitQ (e : Env) :
    (e.afterRelease).emitQ = e.emitQ := rfl
@[simp] theorem Env.afterRelease_closeQ (e : Env) :
    (e.afterRelease).closeQ = e.closeQ := rfl
@[simp] theorem Env.afterRelease_sendQ (e : Env) :
    (e.afterRelease).sendQ = e.sendQ := rfl
@[simp] theorem Env.afterRelease_trace (e : Env) :
    (e.afterRelease).trace = e.trace ++ [.busRelease] := rfl
@[simp] theorem Env.afterRelease_draws (e : Env) :
    (e.afterRelease).draws = e.draws + 1 := rfl

/-! ### Env.afterTime -/

@[simp] theorem Env.afterTime_transport (w : Nat) (e : Env) :
    (e.afterTime w).transport = e.transport := rfl
@[simp] theorem Env.afterTime_regs (w : Nat) (e : Env) :
    (e.afterTime w).regs = e.regs := rfl
@[simp] theorem Env.afterTime_regQ (w : Nat) (e : Env) :
    (e.afterTime w).regQ = e.regQ := rfl
@[simp] theorem Env.afterTime_openQ (w : Nat) (e : Env) :
    (e.afterTime w).openQ = e.openQ := rfl
@[simp] theorem Env.afterTime_timeQ (w : Nat) (e : Env) :
    (e.afterTime w).timeQ = e.timeQ.tail := rfl
@[simp] theorem Env.afterTime_sinkOpenQ (w : Nat) (e : Env) :
    (e.afterTime w).sinkOpenQ = e.sinkOpenQ := rfl
@[simp] theorem Env.afterTime_emitQ (w : Nat) (e : Env) :
    (e.afterTime w).emitQ = e.emitQ := rfl
@[simp] theorem Env.afterTime_closeQ (w : Nat) (e : Env) :
    (e.afterTime w).closeQ = e.closeQ := rfl
@[simp] theorem Env.afterTime_sendQ (w : Nat) (e : Env) :
    (e.afterTime w).sendQ = e.sendQ := rfl
@[simp] theorem Env.afterTime_trace (w : Nat) (e : Env) :
    (e.afterTime w).trace = e.trace ++ [.timeNow (e.timeAnswer w)] := rfl
@[simp] theorem Env.afterTime_draws (w : Nat) (e : Env) :
    (e.afterTime w).draws = e.draws + 1 := rfl

/-! ### Env.afterSinkOpen -/

@[simp] theorem Env.afterSinkOpen_transport (e : Env) (header : String) :
    (e.afterSinkOpen header).transport = e.transport := rfl
@[simp] theorem Env.afterSinkOpen_regs (e : Env) (header : String) :
    (e.afterSinkOpen header).regs = e.regs := rfl
@[simp] theorem Env.afterSinkOpen_regQ (e : Env) (header : String) :
    (e.afterSinkOpen header).regQ = e.regQ := rfl
@[simp] theorem Env.afterSinkOpen_openQ (e : Env) (header : String) :
    (e.afterSinkOpen header).openQ = e.openQ := rfl
@[simp] theorem Env.afterSinkOpen_timeQ (e : Env) (header : String) :
    (e.afterSinkOpen header).timeQ = e.timeQ := rfl
@[simp] theorem Env.afterSinkOpen_sinkOpenQ (e : Env) (header : String) :
    (e.afterSinkOpen header).sinkOpenQ = e.sinkOpenQ.tail := rfl
@[simp] theorem Env.afterSinkOpen_emitQ (e : Env) (header : String) :
    (e.afterSinkOpen header).emitQ = e.emitQ := rfl
@[simp] theorem Env.afterSinkOpen_closeQ (e : Env) (header : String) :
    (e.afterSinkOpen header).closeQ = e.closeQ := rfl
@[simp] theorem Env.afterSinkOpen_sendQ (e : Env) (header : String) :
    (e.afterSinkOpen header).sendQ = e.sendQ := rfl
@[simp] theorem Env.afterSinkOpen_trace (e : Env) (header : String) :
    (e.afterSinkOpen header).trace = e.trace ++ [.sinkOpen header e.sinkOpenAnswer] := rfl
@[simp] theorem Env.afterSinkOpen_draws (e : Env) (header : String) :
    (e.afterSinkOpen header).draws = e.draws + 1 := rfl

/-! ### Env.afterEmit -/

@[simp] theorem Env.afterEmit_transport (e : Env) (r : Sample) :
    (e.afterEmit r).transport = e.transport := rfl
@[simp] theorem Env.afterEmit_regs (e : Env) (r : Sample) :
    (e.afterEmit r).regs = e.regs := rfl
@[simp] theorem Env.afterEmit_regQ (e : Env) (r : Sample) :
    (e.afterEmit r).regQ = e.regQ := rfl
@[simp] theorem Env.afterEmit_openQ (e : Env) (r : Sample) :
    (e.afterEmit r).openQ = e.openQ := rfl
@[simp] theorem Env.afterEmit_timeQ (e : Env) (r : Sample) :
    (e.afterEmit r).timeQ = e.timeQ := rfl
@[simp] theorem Env.afterEmit_sinkOpenQ (e : Env) (r : Sample) :
    (e.afterEmit r).sinkOpenQ = e.sinkOpenQ := rfl
@[simp] theorem Env.afterEmit_emitQ (e : Env) (r : Sample) :
    (e.afterEmit r).emitQ = e.emitQ.tail := rfl
@[simp] theorem Env.afterEmit_closeQ (e : Env) (r : Sample) :
    (e.afterEmit r).closeQ = e.closeQ := rfl
@[simp] theorem Env.afterEmit_sendQ (e : Env) (r : Sample) :
    (e.afterEmit r).sendQ = e.sendQ := rfl
@[simp] theorem Env.afterEmit_trace (e : Env) (r : Sample) :
    (e.afterEmit r).trace = e.trace ++ [.sinkEmit r (e.emitAnswer r)] := rfl
@[simp] theorem Env.afterEmit_draws (e : Env) (r : Sample) :
    (e.afterEmit r).draws = e.draws + 1 := rfl

/-! ### Env.afterClose -/

@[simp] theorem Env.afterClose_transport (e : Env) :
    (e.afterClose).transport = e.transport := rfl
@[simp] theorem Env.afterClose_regs (e : Env) :
    (e.afterClose).regs = e.regs := rfl
@[simp] theorem Env.afterClose_regQ (e : Env) :
    (e.afterClose).regQ = e.regQ := rfl
@[simp] theorem Env.afterClose_openQ (e : Env) :
    (e.afterClose).openQ = e.openQ := rfl
@[simp] theorem Env.afterClose_timeQ (e : Env) :
    (e.afterClose).timeQ = e.timeQ := rfl
@[simp] theorem Env.afterClose_sinkOpenQ (e : Env) :
    (e.afterClose).sinkOpenQ = e.sinkOpenQ := rfl
@[simp] theorem Env.afterClose_emitQ (e : Env) :
    (e.afterClose).emitQ = e.emitQ := rfl
@[simp] theorem Env.afterClose_closeQ (e : Env) :
    (e.afterClose).closeQ = e.closeQ.tail := rfl
@[simp] theorem Env.afterClose_sendQ (e : Env) :
    (e.afterClose).sendQ = e.sendQ := rfl
@[simp] theorem Env.afterClose_trace (e : Env) :
    (e.afterClose).trace = e.trace ++ [.sinkClose e.closeAnswer] := rfl
@[simp] theorem Env.afterClose_draws (e : Env) :
    (e.afterClose).draws = e.draws + 1 := rfl

/-! ### Env.afterSend -/

@[simp] theorem Env.afterSend_transport (e : Env) (vec : List Word16) :
    (e.afterSend vec).transport = e.transport := rfl
@[simp] theorem Env.afterSend_regs (e : Env) (vec : List Word16) :
    (e.afterSend vec).regs = e.regs := rfl
@[simp] theorem Env.afterSend_regQ (e : Env) (vec : List Word16) :
    (e.afterSend vec).regQ = e.regQ := rfl
@[simp] theorem Env.afterSend_openQ (e : Env) (vec : List Word16) :
    (e.afterSend vec).openQ = e.openQ := rfl
@[simp] theorem Env.afterSend_timeQ (e : Env) (vec : List Word16) :
    (e.afterSend vec).timeQ = e.timeQ := rfl
@[simp] theorem Env.afterSend_sinkOpenQ (e : Env) (vec : List Word16) :
    (e.afterSend vec).sinkOpenQ = e.sinkOpenQ := rfl
@[simp] theorem Env.afterSend_emitQ (e : Env) (vec : List Word16) :
    (e.afterSend vec).emitQ = e.emitQ := rfl
@[simp] theorem Env.afterSend_closeQ (e : Env) (vec : List Word16) :
    (e.afterSend vec).closeQ = e.closeQ := rfl
@[simp] theorem Env.afterSend_sendQ (e : Env) (vec : List Word16) :
    (e.afterSend vec).sendQ = e.sendQ.tail := rfl
@[simp] theorem Env.afterSend_trace (e : Env) (vec : List Word16) :
    (e.afterSend vec).trace = e.trace ++ [.actSend vec (e.sendAnswer vec)] := rfl
@[simp] theorem Env.afterSend_draws (e : Env) (vec : List Word16) :
    (e.afterSend vec).draws = e.draws + 1 := rfl

/-! ### Env.afterActRelease -/

@[simp] theorem Env.afterActRelease_transport (e : Env) :
    (e.afterActRelease).transport = e.transport := rfl
@[simp] theorem Env.afterActRelease_regs (e : Env) :
    (e.afterActRelease).regs = e.regs := rfl
@[simp] theorem Env.afterActRelease_regQ (e : Env) :
    (e.afterActRelease).regQ = e.regQ := rfl
@[simp] theorem Env.afterActRelease_openQ (e : Env) :
    (e.afterActRelease).openQ = e.openQ := rfl
@[simp] theorem Env.afterActRelease_timeQ (e : Env) :
    (e.afterActRelease).timeQ = e.timeQ := rfl
@[simp] theorem Env.afterActRelease_sinkOpenQ (e : Env) :
    (e.afterActRelease).sinkOpenQ = e.sinkOpenQ := rfl
@[simp] theorem Env.afterActRelease_emitQ (e : Env) :
    (e.afterActRelease).emitQ = e.emitQ := rfl
@[simp] theorem Env.afterActRelease_closeQ (e : Env) :
    (e.afterActRelease).closeQ = e.closeQ := rfl
@[simp] theorem Env.afterActRelease_sendQ (e : Env) :
    (e.afterActRelease).sendQ = e.sendQ := rfl
@[simp] theorem Env.afterActRelease_trace (e : Env) :
    (e.afterActRelease).trace = e.trace ++ [.actRelease] := rfl
@[simp] theorem Env.afterActRelease_draws (e : Env) :
    (e.afterActRelease).draws = e.draws + 1 := rfl

/-! ### State.afterMemRead -/

@[simp] theorem State.afterMemRead_regs (s : State) (a : Addr) :
    (s.afterMemRead a).regs = s.regs := rfl
@[simp] theorem State.afterMemRead_params (s : State) (a : Addr) :
    (s.afterMemRead a).params = s.params := rfl
@[simp] theorem State.afterMemRead_host (s : State) (a : Addr) :
    (s.afterMemRead a).host = s.host := rfl
@[simp] theorem State.afterMemRead_hostSched (s : State) (a : Addr) :
    (s.afterMemRead a).hostSched = s.hostSched := rfl
@[simp] theorem State.afterMemRead_env (s : State) (a : Addr) :
    (s.afterMemRead a).env = s.env.afterRead a := rfl
@[simp] theorem State.afterMemRead_drv (s : State) (a : Addr) :
    (s.afterMemRead a).drv = s.drv := rfl
@[simp] theorem State.afterMemRead_diag (s : State) (a : Addr) :
    (s.afterMemRead a).diag = s.diag := rfl
@[simp] theorem State.afterMemRead_drvResult (s : State) (a : Addr) :
    (s.afterMemRead a).drvResult = s.drvResult := rfl
@[simp] theorem State.afterMemRead_leak (s : State) (a : Addr) :
    (s.afterMemRead a).leak = s.leak := rfl

/-! ### State.afterMemWrite -/

@[simp] theorem State.afterMemWrite_regs (s : State) (a : Addr) (v : Word16) :
    (s.afterMemWrite a v).regs = s.regs := rfl
@[simp] theorem State.afterMemWrite_params (s : State) (a : Addr) (v : Word16) :
    (s.afterMemWrite a v).params = s.params := rfl
@[simp] theorem State.afterMemWrite_host (s : State) (a : Addr) (v : Word16) :
    (s.afterMemWrite a v).host = s.host := rfl
@[simp] theorem State.afterMemWrite_hostSched (s : State) (a : Addr) (v : Word16) :
    (s.afterMemWrite a v).hostSched = s.hostSched := rfl
@[simp] theorem State.afterMemWrite_env (s : State) (a : Addr) (v : Word16) :
    (s.afterMemWrite a v).env = s.env.afterWrite a (swap16 v) := rfl
@[simp] theorem State.afterMemWrite_drv (s : State) (a : Addr) (v : Word16) :
    (s.afterMemWrite a v).drv = s.drv := rfl
@[simp] theorem State.afterMemWrite_diag (s : State) (a : Addr) (v : Word16) :
    (s.afterMemWrite a v).diag = s.diag := rfl
@[simp] theorem State.afterMemWrite_drvResult (s : State) (a : Addr) (v : Word16) :
    (s.afterMemWrite a v).drvResult = s.drvResult := rfl
@[simp] theorem State.afterMemWrite_leak (s : State) (a : Addr) (v : Word16) :
    (s.afterMemWrite a v).leak = s.leak := rfl

/-! ### State.goto -/

@[simp] theorem State.goto_params (s : State) (st : StCode) (ph : Phase) :
    (s.goto st ph).params = s.params := rfl
@[simp] theorem State.goto_host (s : State) (st : StCode) (ph : Phase) :
    (s.goto st ph).host = s.host := rfl
@[simp] theorem State.goto_hostSched (s : State) (st : StCode) (ph : Phase) :
    (s.goto st ph).hostSched = s.hostSched := rfl
@[simp] theorem State.goto_env (s : State) (st : StCode) (ph : Phase) :
    (s.goto st ph).env = s.env := rfl
@[simp] theorem State.goto_drv (s : State) (st : StCode) (ph : Phase) :
    (s.goto st ph).drv = s.drv := rfl
@[simp] theorem State.goto_diag (s : State) (st : StCode) (ph : Phase) :
    (s.goto st ph).diag = s.diag := rfl
@[simp] theorem State.goto_drvResult (s : State) (st : StCode) (ph : Phase) :
    (s.goto st ph).drvResult = s.drvResult := rfl
@[simp] theorem State.goto_leak (s : State) (st : StCode) (ph : Phase) :
    (s.goto st ph).leak = s.leak := rfl
@[simp] theorem State.goto_regs_st (s : State) (st : StCode) (ph : Phase) :
    (s.goto st ph).regs.st = st := rfl
@[simp] theorem State.goto_regs_ph (s : State) (st : StCode) (ph : Phase) :
    (s.goto st ph).regs.ph = ph := rfl
@[simp] theorem State.goto_regs_hi (s : State) (st : StCode) (ph : Phase) :
    (s.goto st ph).regs.hi = s.regs.hi := rfl
@[simp] theorem State.goto_regs_lo (s : State) (st : StCode) (ph : Phase) :
    (s.goto st ph).regs.lo = s.regs.lo := rfl
@[simp] theorem State.goto_regs_mag (s : State) (st : StCode) (ph : Phase) :
    (s.goto st ph).regs.mag = s.regs.mag := rfl
@[simp] theorem State.goto_regs_ef (s : State) (st : StCode) (ph : Phase) :
    (s.goto st ph).regs.ef = s.regs.ef := rfl
@[simp] theorem State.goto_regs_efs (s : State) (st : StCode) (ph : Phase) :
    (s.goto st ph).regs.efs = s.regs.efs := rfl
@[simp] theorem State.goto_regs_stat (s : State) (st : StCode) (ph : Phase) :
    (s.goto st ph).regs.stat = s.regs.stat := rfl
@[simp] theorem State.goto_regs_t0s (s : State) (st : StCode) (ph : Phase) :
    (s.goto st ph).regs.t0s = s.regs.t0s := rfl
@[simp] theorem State.goto_regs_t0n (s : State) (st : StCode) (ph : Phase) :
    (s.goto st ph).regs.t0n = s.regs.t0n := rfl
@[simp] theorem State.goto_regs_tss (s : State) (st : StCode) (ph : Phase) :
    (s.goto st ph).regs.tss = s.regs.tss := rfl
@[simp] theorem State.goto_regs_tsn (s : State) (st : StCode) (ph : Phase) :
    (s.goto st ph).regs.tsn = s.regs.tsn := rfl
@[simp] theorem State.goto_regs_nit (s : State) (st : StCode) (ph : Phase) :
    (s.goto st ph).regs.nit = s.regs.nit := rfl
@[simp] theorem State.goto_regs_nem (s : State) (st : StCode) (ph : Phase) :
    (s.goto st ph).regs.nem = s.regs.nem := rfl
@[simp] theorem State.goto_regs_nsk (s : State) (st : StCode) (ph : Phase) :
    (s.goto st ph).regs.nsk = s.regs.nsk := rfl
@[simp] theorem State.goto_regs_sct (s : State) (st : StCode) (ph : Phase) :
    (s.goto st ph).regs.sct = s.regs.sct := rfl
@[simp] theorem State.goto_regs_polls (s : State) (st : StCode) (ph : Phase) :
    (s.goto st ph).regs.polls = s.regs.polls := rfl
@[simp] theorem State.goto_regs_cmd (s : State) (st : StCode) (ph : Phase) :
    (s.goto st ph).regs.cmd = s.regs.cmd := rfl
@[simp] theorem State.goto_regs_err (s : State) (st : StCode) (ph : Phase) :
    (s.goto st ph).regs.err = s.regs.err := rfl
@[simp] theorem State.goto_regs_estate (s : State) (st : StCode) (ph : Phase) :
    (s.goto st ph).regs.estate = s.regs.estate := rfl
@[simp] theorem State.goto_regs_eph (s : State) (st : StCode) (ph : Phase) :
    (s.goto st ph).regs.eph = s.regs.eph := rfl
@[simp] theorem State.goto_regs_eaddr (s : State) (st : StCode) (ph : Phase) :
    (s.goto st ph).regs.eaddr = s.regs.eaddr := rfl
@[simp] theorem State.goto_regs_eexp (s : State) (st : StCode) (ph : Phase) :
    (s.goto st ph).regs.eexp = s.regs.eexp := rfl
@[simp] theorem State.goto_regs_eact (s : State) (st : StCode) (ph : Phase) :
    (s.goto st ph).regs.eact = s.regs.eact := rfl
@[simp] theorem State.goto_regs_busOwned (s : State) (st : StCode) (ph : Phase) :
    (s.goto st ph).regs.busOwned = s.regs.busOwned := rfl
@[simp] theorem State.goto_regs_sinkOpen (s : State) (st : StCode) (ph : Phase) :
    (s.goto st ph).regs.sinkOpen = s.regs.sinkOpen := rfl
@[simp] theorem State.goto_regs_actOwned (s : State) (st : StCode) (ph : Phase) :
    (s.goto st ph).regs.actOwned = s.regs.actOwned := rfl
@[simp] theorem State.goto_regs_cfgCh (s : State) (st : StCode) (ph : Phase) :
    (s.goto st ph).regs.cfgCh = s.regs.cfgCh := rfl
@[simp] theorem State.goto_regs_cfgNsamp (s : State) (st : StCode) (ph : Phase) :
    (s.goto st ph).regs.cfgNsamp = s.regs.cfgNsamp := rfl
@[simp] theorem State.goto_regs_cfgStep (s : State) (st : StCode) (ph : Phase) :
    (s.goto st ph).regs.cfgStep = s.regs.cfgStep := rfl
@[simp] theorem State.goto_regs_cfgInc (s : State) (st : StCode) (ph : Phase) :
    (s.goto st ph).regs.cfgInc = s.regs.cfgInc := rfl
@[simp] theorem State.goto_regs_cfgLim (s : State) (st : StCode) (ph : Phase) :
    (s.goto st ph).regs.cfgLim = s.regs.cfgLim := rfl
@[simp] theorem State.goto_regs_cfgAct (s : State) (st : StCode) (ph : Phase) :
    (s.goto st ph).regs.cfgAct = s.regs.cfgAct := rfl

/-! ### State.raise -/

@[simp] theorem State.raise_regs (s : State) (ev : List DiagEvent) :
    (s.raise ev).regs = s.regs := rfl
@[simp] theorem State.raise_params (s : State) (ev : List DiagEvent) :
    (s.raise ev).params = s.params := rfl
@[simp] theorem State.raise_host (s : State) (ev : List DiagEvent) :
    (s.raise ev).host = s.host := rfl
@[simp] theorem State.raise_hostSched (s : State) (ev : List DiagEvent) :
    (s.raise ev).hostSched = s.hostSched := rfl
@[simp] theorem State.raise_env (s : State) (ev : List DiagEvent) :
    (s.raise ev).env = s.env := rfl
@[simp] theorem State.raise_drv (s : State) (ev : List DiagEvent) :
    (s.raise ev).drv = s.drv := rfl
@[simp] theorem State.raise_diag (s : State) (ev : List DiagEvent) :
    (s.raise ev).diag = s.diag ++ ev := rfl
@[simp] theorem State.raise_drvResult (s : State) (ev : List DiagEvent) :
    (s.raise ev).drvResult = s.drvResult := rfl
@[simp] theorem State.raise_leak (s : State) (ev : List DiagEvent) :
    (s.raise ev).leak = s.leak := rfl

/-! ### State.returnResult -/

@[simp] theorem State.returnResult_regs (s : State) (r : DrvResult) :
    (s.returnResult r).regs = s.regs := rfl
@[simp] theorem State.returnResult_params (s : State) (r : DrvResult) :
    (s.returnResult r).params = s.params := rfl
@[simp] theorem State.returnResult_host (s : State) (r : DrvResult) :
    (s.returnResult r).host = s.host := rfl
@[simp] theorem State.returnResult_hostSched (s : State) (r : DrvResult) :
    (s.returnResult r).hostSched = s.hostSched := rfl
@[simp] theorem State.returnResult_env (s : State) (r : DrvResult) :
    (s.returnResult r).env = s.env := rfl
@[simp] theorem State.returnResult_drv (s : State) (r : DrvResult) :
    (s.returnResult r).drv = s.drv := rfl
@[simp] theorem State.returnResult_diag (s : State) (r : DrvResult) :
    (s.returnResult r).diag = s.diag := rfl
@[simp] theorem State.returnResult_drvResult (s : State) (r : DrvResult) :
    (s.returnResult r).drvResult = some r := rfl
@[simp] theorem State.returnResult_leak (s : State) (r : DrvResult) :
    (s.returnResult r).leak = s.leak := rfl

/-! ### abort -/

@[simp] theorem abort_params (s : State) (e : RunError) (st : StCode) (ph : Phase) (a : Addr) (x v : Word16) (entry : Phase) :
    (abort e st ph a x v entry s).params = s.params := rfl
@[simp] theorem abort_host (s : State) (e : RunError) (st : StCode) (ph : Phase) (a : Addr) (x v : Word16) (entry : Phase) :
    (abort e st ph a x v entry s).host = s.host := rfl
@[simp] theorem abort_hostSched (s : State) (e : RunError) (st : StCode) (ph : Phase) (a : Addr) (x v : Word16) (entry : Phase) :
    (abort e st ph a x v entry s).hostSched = s.hostSched := rfl
@[simp] theorem abort_env (s : State) (e : RunError) (st : StCode) (ph : Phase) (a : Addr) (x v : Word16) (entry : Phase) :
    (abort e st ph a x v entry s).env = s.env := rfl
@[simp] theorem abort_drv (s : State) (e : RunError) (st : StCode) (ph : Phase) (a : Addr) (x v : Word16) (entry : Phase) :
    (abort e st ph a x v entry s).drv = s.drv := rfl
@[simp] theorem abort_diag (s : State) (e : RunError) (st : StCode) (ph : Phase) (a : Addr) (x v : Word16) (entry : Phase) :
    (abort e st ph a x v entry s).diag = s.diag := rfl
@[simp] theorem abort_drvResult (s : State) (e : RunError) (st : StCode) (ph : Phase) (a : Addr) (x v : Word16) (entry : Phase) :
    (abort e st ph a x v entry s).drvResult = s.drvResult := rfl
@[simp] theorem abort_leak (s : State) (e : RunError) (st : StCode) (ph : Phase) (a : Addr) (x v : Word16) (entry : Phase) :
    (abort e st ph a x v entry s).leak = s.leak := rfl
@[simp] theorem abort_regs_st (s : State) (e : RunError) (st : StCode) (ph : Phase) (a : Addr) (x v : Word16) (entry : Phase) :
    (abort e st ph a x v entry s).regs.st = 7#3 := rfl
@[simp] theorem abort_regs_ph (s : State) (e : RunError) (st : StCode) (ph : Phase) (a : Addr) (x v : Word16) (entry : Phase) :
    (abort e st ph a x v entry s).regs.ph = entry := rfl
@[simp] theorem abort_regs_hi (s : State) (e : RunError) (st : StCode) (ph : Phase) (a : Addr) (x v : Word16) (entry : Phase) :
    (abort e st ph a x v entry s).regs.hi = s.regs.hi := rfl
@[simp] theorem abort_regs_lo (s : State) (e : RunError) (st : StCode) (ph : Phase) (a : Addr) (x v : Word16) (entry : Phase) :
    (abort e st ph a x v entry s).regs.lo = s.regs.lo := rfl
@[simp] theorem abort_regs_mag (s : State) (e : RunError) (st : StCode) (ph : Phase) (a : Addr) (x v : Word16) (entry : Phase) :
    (abort e st ph a x v entry s).regs.mag = s.regs.mag := rfl
@[simp] theorem abort_regs_ef (s : State) (e : RunError) (st : StCode) (ph : Phase) (a : Addr) (x v : Word16) (entry : Phase) :
    (abort e st ph a x v entry s).regs.ef = s.regs.ef := rfl
@[simp] theorem abort_regs_efs (s : State) (e : RunError) (st : StCode) (ph : Phase) (a : Addr) (x v : Word16) (entry : Phase) :
    (abort e st ph a x v entry s).regs.efs = s.regs.efs := rfl
@[simp] theorem abort_regs_stat (s : State) (e : RunError) (st : StCode) (ph : Phase) (a : Addr) (x v : Word16) (entry : Phase) :
    (abort e st ph a x v entry s).regs.stat = s.regs.stat := rfl
@[simp] theorem abort_regs_t0s (s : State) (e : RunError) (st : StCode) (ph : Phase) (a : Addr) (x v : Word16) (entry : Phase) :
    (abort e st ph a x v entry s).regs.t0s = s.regs.t0s := rfl
@[simp] theorem abort_regs_t0n (s : State) (e : RunError) (st : StCode) (ph : Phase) (a : Addr) (x v : Word16) (entry : Phase) :
    (abort e st ph a x v entry s).regs.t0n = s.regs.t0n := rfl
@[simp] theorem abort_regs_tss (s : State) (e : RunError) (st : StCode) (ph : Phase) (a : Addr) (x v : Word16) (entry : Phase) :
    (abort e st ph a x v entry s).regs.tss = s.regs.tss := rfl
@[simp] theorem abort_regs_tsn (s : State) (e : RunError) (st : StCode) (ph : Phase) (a : Addr) (x v : Word16) (entry : Phase) :
    (abort e st ph a x v entry s).regs.tsn = s.regs.tsn := rfl
@[simp] theorem abort_regs_nit (s : State) (e : RunError) (st : StCode) (ph : Phase) (a : Addr) (x v : Word16) (entry : Phase) :
    (abort e st ph a x v entry s).regs.nit = s.regs.nit := rfl
@[simp] theorem abort_regs_nem (s : State) (e : RunError) (st : StCode) (ph : Phase) (a : Addr) (x v : Word16) (entry : Phase) :
    (abort e st ph a x v entry s).regs.nem = s.regs.nem := rfl
@[simp] theorem abort_regs_nsk (s : State) (e : RunError) (st : StCode) (ph : Phase) (a : Addr) (x v : Word16) (entry : Phase) :
    (abort e st ph a x v entry s).regs.nsk = s.regs.nsk := rfl
@[simp] theorem abort_regs_sct (s : State) (e : RunError) (st : StCode) (ph : Phase) (a : Addr) (x v : Word16) (entry : Phase) :
    (abort e st ph a x v entry s).regs.sct = s.regs.sct := rfl
@[simp] theorem abort_regs_polls (s : State) (e : RunError) (st : StCode) (ph : Phase) (a : Addr) (x v : Word16) (entry : Phase) :
    (abort e st ph a x v entry s).regs.polls = s.regs.polls := rfl
@[simp] theorem abort_regs_cmd (s : State) (e : RunError) (st : StCode) (ph : Phase) (a : Addr) (x v : Word16) (entry : Phase) :
    (abort e st ph a x v entry s).regs.cmd = s.regs.cmd := rfl
@[simp] theorem abort_regs_err (s : State) (e : RunError) (st : StCode) (ph : Phase) (a : Addr) (x v : Word16) (entry : Phase) :
    (abort e st ph a x v entry s).regs.err = e.code := rfl
@[simp] theorem abort_regs_estate (s : State) (e : RunError) (st : StCode) (ph : Phase) (a : Addr) (x v : Word16) (entry : Phase) :
    (abort e st ph a x v entry s).regs.estate = st := rfl
@[simp] theorem abort_regs_eph (s : State) (e : RunError) (st : StCode) (ph : Phase) (a : Addr) (x v : Word16) (entry : Phase) :
    (abort e st ph a x v entry s).regs.eph = ph := rfl
@[simp] theorem abort_regs_eaddr (s : State) (e : RunError) (st : StCode) (ph : Phase) (a : Addr) (x v : Word16) (entry : Phase) :
    (abort e st ph a x v entry s).regs.eaddr = a := rfl
@[simp] theorem abort_regs_eexp (s : State) (e : RunError) (st : StCode) (ph : Phase) (a : Addr) (x v : Word16) (entry : Phase) :
    (abort e st ph a x v entry s).regs.eexp = x := rfl
@[simp] theorem abort_regs_eact (s : State) (e : RunError) (st : StCode) (ph : Phase) (a : Addr) (x v : Word16) (entry : Phase) :
    (abort e st ph a x v entry s).regs.eact = v := rfl
@[simp] theorem abort_regs_busOwned (s : State) (e : RunError) (st : StCode) (ph : Phase) (a : Addr) (x v : Word16) (entry : Phase) :
    (abort e st ph a x v entry s).regs.busOwned = s.regs.busOwned := rfl
@[simp] theorem abort_regs_sinkOpen (s : State) (e : RunError) (st : StCode) (ph : Phase) (a : Addr) (x v : Word16) (entry : Phase) :
    (abort e st ph a x v entry s).regs.sinkOpen = s.regs.sinkOpen := rfl
@[simp] theorem abort_regs_actOwned (s : State) (e : RunError) (st : StCode) (ph : Phase) (a : Addr) (x v : Word16) (entry : Phase) :
    (abort e st ph a x v entry s).regs.actOwned = s.regs.actOwned := rfl
@[simp] theorem abort_regs_cfgCh (s : State) (e : RunError) (st : StCode) (ph : Phase) (a : Addr) (x v : Word16) (entry : Phase) :
    (abort e st ph a x v entry s).regs.cfgCh = s.regs.cfgCh := rfl
@[simp] theorem abort_regs_cfgNsamp (s : State) (e : RunError) (st : StCode) (ph : Phase) (a : Addr) (x v : Word16) (entry : Phase) :
    (abort e st ph a x v entry s).regs.cfgNsamp = s.regs.cfgNsamp := rfl
@[simp] theorem abort_regs_cfgStep (s : State) (e : RunError) (st : StCode) (ph : Phase) (a : Addr) (x v : Word16) (entry : Phase) :
    (abort e st ph a x v entry s).regs.cfgStep = s.regs.cfgStep := rfl
@[simp] theorem abort_regs_cfgInc (s : State) (e : RunError) (st : StCode) (ph : Phase) (a : Addr) (x v : Word16) (entry : Phase) :
    (abort e st ph a x v entry s).regs.cfgInc = s.regs.cfgInc := rfl
@[simp] theorem abort_regs_cfgLim (s : State) (e : RunError) (st : StCode) (ph : Phase) (a : Addr) (x v : Word16) (entry : Phase) :
    (abort e st ph a x v entry s).regs.cfgLim = s.regs.cfgLim := rfl
@[simp] theorem abort_regs_cfgAct (s : State) (e : RunError) (st : StCode) (ph : Phase) (a : Addr) (x v : Word16) (entry : Phase) :
    (abort e st ph a x v entry s).regs.cfgAct = s.regs.cfgAct := rfl

/-! ### latchConfig -/

@[simp] theorem latchConfig_params (s : State) :
    (latchConfig s).params = s.params := rfl
@[simp] theorem latchConfig_host (s : State) :
    (latchConfig s).host = s.host := rfl
@[simp] theorem latchConfig_hostSched (s : State) :
    (latchConfig s).hostSched = s.hostSched := rfl
@[simp] theorem latchConfig_env (s : State) :
    (latchConfig s).env = s.env := rfl
@[simp] theorem latchConfig_drv (s : State) :
    (latchConfig s).drv = s.drv := rfl
@[simp] theorem latchConfig_diag (s : State) :
    (latchConfig s).diag = s.diag := rfl
@[simp] theorem latchConfig_drvResult (s : State) :
    (latchConfig s).drvResult = s.drvResult := rfl
@[simp] theorem latchConfig_leak (s : State) :
    (latchConfig s).leak = s.leak := rfl
@[simp] theorem latchConfig_regs_st (s : State) :
    (latchConfig s).regs.st = s.regs.st := rfl
@[simp] theorem latchConfig_regs_ph (s : State) :
    (latchConfig s).regs.ph = s.regs.ph := rfl
@[simp] theorem latchConfig_regs_hi (s : State) :
    (latchConfig s).regs.hi = s.regs.hi := rfl
@[simp] theorem latchConfig_regs_lo (s : State) :
    (latchConfig s).regs.lo = s.regs.lo := rfl
@[simp] theorem latchConfig_regs_mag (s : State) :
    (latchConfig s).regs.mag = s.regs.mag := rfl
@[simp] theorem latchConfig_regs_ef (s : State) :
    (latchConfig s).regs.ef = s.regs.ef := rfl
@[simp] theorem latchConfig_regs_efs (s : State) :
    (latchConfig s).regs.efs = s.regs.efs := rfl
@[simp] theorem latchConfig_regs_stat (s : State) :
    (latchConfig s).regs.stat = s.regs.stat := rfl
@[simp] theorem latchConfig_regs_t0s (s : State) :
    (latchConfig s).regs.t0s = s.regs.t0s := rfl
@[simp] theorem latchConfig_regs_t0n (s : State) :
    (latchConfig s).regs.t0n = s.regs.t0n := rfl
@[simp] theorem latchConfig_regs_tss (s : State) :
    (latchConfig s).regs.tss = s.regs.tss := rfl
@[simp] theorem latchConfig_regs_tsn (s : State) :
    (latchConfig s).regs.tsn = s.regs.tsn := rfl
@[simp] theorem latchConfig_regs_nit (s : State) :
    (latchConfig s).regs.nit = s.regs.nit := rfl
@[simp] theorem latchConfig_regs_nem (s : State) :
    (latchConfig s).regs.nem = s.regs.nem := rfl
@[simp] theorem latchConfig_regs_nsk (s : State) :
    (latchConfig s).regs.nsk = s.regs.nsk := rfl
@[simp] theorem latchConfig_regs_sct (s : State) :
    (latchConfig s).regs.sct = s.regs.sct := rfl
@[simp] theorem latchConfig_regs_polls (s : State) :
    (latchConfig s).regs.polls = s.regs.polls := rfl
@[simp] theorem latchConfig_regs_cmd (s : State) :
    (latchConfig s).regs.cmd = s.regs.cmd := rfl
@[simp] theorem latchConfig_regs_err (s : State) :
    (latchConfig s).regs.err = s.regs.err := rfl
@[simp] theorem latchConfig_regs_estate (s : State) :
    (latchConfig s).regs.estate = s.regs.estate := rfl
@[simp] theorem latchConfig_regs_eph (s : State) :
    (latchConfig s).regs.eph = s.regs.eph := rfl
@[simp] theorem latchConfig_regs_eaddr (s : State) :
    (latchConfig s).regs.eaddr = s.regs.eaddr := rfl
@[simp] theorem latchConfig_regs_eexp (s : State) :
    (latchConfig s).regs.eexp = s.regs.eexp := rfl
@[simp] theorem latchConfig_regs_eact (s : State) :
    (latchConfig s).regs.eact = s.regs.eact := rfl
@[simp] theorem latchConfig_regs_busOwned (s : State) :
    (latchConfig s).regs.busOwned = s.regs.busOwned := rfl
@[simp] theorem latchConfig_regs_sinkOpen (s : State) :
    (latchConfig s).regs.sinkOpen = s.regs.sinkOpen := rfl
@[simp] theorem latchConfig_regs_actOwned (s : State) :
    (latchConfig s).regs.actOwned = s.regs.actOwned := rfl
@[simp] theorem latchConfig_regs_cfgCh (s : State) :
    (latchConfig s).regs.cfgCh = s.host.channel := rfl
@[simp] theorem latchConfig_regs_cfgNsamp (s : State) :
    (latchConfig s).regs.cfgNsamp = narrow s.params.wCnt s.host.sampleCount := rfl
@[simp] theorem latchConfig_regs_cfgStep (s : State) :
    (latchConfig s).regs.cfgStep = narrow s.params.wCnt s.host.stepCount := rfl
@[simp] theorem latchConfig_regs_cfgInc (s : State) :
    (latchConfig s).regs.cfgInc = s.host.cmdInc := rfl
@[simp] theorem latchConfig_regs_cfgLim (s : State) :
    (latchConfig s).regs.cfgLim = s.host.cmdLimit := rfl
@[simp] theorem latchConfig_regs_cfgAct (s : State) :
    (latchConfig s).regs.cfgAct = s.host.actEn := rfl

/-! ### runStart -/

@[simp] theorem runStart_params (s : State) :
    (runStart s).params = s.params := rfl
@[simp] theorem runStart_host (s : State) :
    (runStart s).host = s.host := rfl
@[simp] theorem runStart_hostSched (s : State) :
    (runStart s).hostSched = s.hostSched := rfl
@[simp] theorem runStart_env (s : State) :
    (runStart s).env = s.env := rfl
@[simp] theorem runStart_drv (s : State) :
    (runStart s).drv = s.drv := rfl
@[simp] theorem runStart_diag (s : State) :
    (runStart s).diag = s.diag := rfl
@[simp] theorem runStart_drvResult (s : State) :
    (runStart s).drvResult = s.drvResult := rfl
@[simp] theorem runStart_leak (s : State) :
    (runStart s).leak = s.leak := rfl
@[simp] theorem runStart_regs_st (s : State) :
    (runStart s).regs.st = 1#3 := rfl
@[simp] theorem runStart_regs_ph (s : State) :
    (runStart s).regs.ph = 0#4 := rfl
@[simp] theorem runStart_regs_hi (s : State) :
    (runStart s).regs.hi = s.regs.hi := rfl
@[simp] theorem runStart_regs_lo (s : State) :
    (runStart s).regs.lo = s.regs.lo := rfl
@[simp] theorem runStart_regs_mag (s : State) :
    (runStart s).regs.mag = s.regs.mag := rfl
@[simp] theorem runStart_regs_ef (s : State) :
    (runStart s).regs.ef = s.regs.ef := rfl
@[simp] theorem runStart_regs_efs (s : State) :
    (runStart s).regs.efs = s.regs.efs := rfl
@[simp] theorem runStart_regs_stat (s : State) :
    (runStart s).regs.stat = s.regs.stat := rfl
@[simp] theorem runStart_regs_t0s (s : State) :
    (runStart s).regs.t0s = s.regs.t0s := rfl
@[simp] theorem runStart_regs_t0n (s : State) :
    (runStart s).regs.t0n = s.regs.t0n := rfl
@[simp] theorem runStart_regs_tss (s : State) :
    (runStart s).regs.tss = s.regs.tss := rfl
@[simp] theorem runStart_regs_tsn (s : State) :
    (runStart s).regs.tsn = s.regs.tsn := rfl
@[simp] theorem runStart_regs_nit (s : State) :
    (runStart s).regs.nit = s.regs.nit := rfl
@[simp] theorem runStart_regs_nem (s : State) :
    (runStart s).regs.nem = s.regs.nem := rfl
@[simp] theorem runStart_regs_nsk (s : State) :
    (runStart s).regs.nsk = s.regs.nsk := rfl
@[simp] theorem runStart_regs_sct (s : State) :
    (runStart s).regs.sct = s.regs.sct := rfl
@[simp] theorem runStart_regs_polls (s : State) :
    (runStart s).regs.polls = s.regs.polls := rfl
@[simp] theorem runStart_regs_cmd (s : State) :
    (runStart s).regs.cmd = s.params.cmdInit := rfl
@[simp] theorem runStart_regs_err (s : State) :
    (runStart s).regs.err = s.regs.err := rfl
@[simp] theorem runStart_regs_estate (s : State) :
    (runStart s).regs.estate = s.regs.estate := rfl
@[simp] theorem runStart_regs_eph (s : State) :
    (runStart s).regs.eph = s.regs.eph := rfl
@[simp] theorem runStart_regs_eaddr (s : State) :
    (runStart s).regs.eaddr = s.regs.eaddr := rfl
@[simp] theorem runStart_regs_eexp (s : State) :
    (runStart s).regs.eexp = s.regs.eexp := rfl
@[simp] theorem runStart_regs_eact (s : State) :
    (runStart s).regs.eact = s.regs.eact := rfl
@[simp] theorem runStart_regs_busOwned (s : State) :
    (runStart s).regs.busOwned = s.regs.busOwned := rfl
@[simp] theorem runStart_regs_sinkOpen (s : State) :
    (runStart s).regs.sinkOpen = s.regs.sinkOpen := rfl
@[simp] theorem runStart_regs_actOwned (s : State) :
    (runStart s).regs.actOwned = s.host.actEn := rfl
@[simp] theorem runStart_regs_cfgCh (s : State) :
    (runStart s).regs.cfgCh = s.regs.cfgCh := rfl
@[simp] theorem runStart_regs_cfgNsamp (s : State) :
    (runStart s).regs.cfgNsamp = s.regs.cfgNsamp := rfl
@[simp] theorem runStart_regs_cfgStep (s : State) :
    (runStart s).regs.cfgStep = s.regs.cfgStep := rfl
@[simp] theorem runStart_regs_cfgInc (s : State) :
    (runStart s).regs.cfgInc = s.regs.cfgInc := rfl
@[simp] theorem runStart_regs_cfgLim (s : State) :
    (runStart s).regs.cfgLim = s.regs.cfgLim := rfl
@[simp] theorem runStart_regs_cfgAct (s : State) :
    (runStart s).regs.cfgAct = s.regs.cfgAct := rfl

/-! ### State.begin -/

@[simp] theorem State.begin_regs (s : State) :
    (s.begin).regs = s.regs := rfl
@[simp] theorem State.begin_params (s : State) :
    (s.begin).params = s.params := rfl
@[simp] theorem State.begin_host (s : State) :
    (s.begin).host = s.host := rfl
@[simp] theorem State.begin_hostSched (s : State) :
    (s.begin).hostSched = s.hostSched := rfl
@[simp] theorem State.begin_env (s : State) :
    (s.begin).env = s.env := rfl
@[simp] theorem State.begin_drv (s : State) :
    (s.begin).drv = (if s.inIdle then s.drv.tail else s.drv) := rfl
@[simp] theorem State.begin_diag (s : State) :
    (s.begin).diag = [] := rfl
@[simp] theorem State.begin_drvResult (s : State) :
    (s.begin).drvResult = none := rfl
@[simp] theorem State.begin_leak (s : State) :
    (s.begin).leak = s.leak := rfl

/-! ### State.settle -/

@[simp] theorem State.settle_regs (s : State) :
    (s.settle).regs = s.regs := rfl
@[simp] theorem State.settle_params (s : State) :
    (s.settle).params = s.params := rfl
@[simp] theorem State.settle_host (s : State) :
    (s.settle).host = s.host := rfl
@[simp] theorem State.settle_hostSched (s : State) :
    (s.settle).hostSched = s.hostSched := rfl
@[simp] theorem State.settle_env (s : State) :
    (s.settle).env = s.env := rfl
@[simp] theorem State.settle_drv (s : State) :
    (s.settle).drv = programAfter s.drvResult s.drv := rfl
@[simp] theorem State.settle_diag (s : State) :
    (s.settle).diag = s.diag := rfl
@[simp] theorem State.settle_drvResult (s : State) :
    (s.settle).drvResult = s.drvResult := rfl
@[simp] theorem State.settle_leak (s : State) :
    (s.settle).leak = s.leak := rfl

/-! ### State.tick -/

@[simp] theorem State.tick_regs (s : State) :
    (s.tick).regs = s.regs := rfl
@[simp] theorem State.tick_params (s : State) :
    (s.tick).params = s.params := rfl
@[simp] theorem State.tick_host (s : State) :
    (s.tick).host = s.hostSched.headD s.host := rfl
@[simp] theorem State.tick_hostSched (s : State) :
    (s.tick).hostSched = s.hostSched.tail := rfl
@[simp] theorem State.tick_env (s : State) :
    (s.tick).env = s.env := rfl
@[simp] theorem State.tick_drv (s : State) :
    (s.tick).drv = s.drv := rfl
@[simp] theorem State.tick_diag (s : State) :
    (s.tick).diag = s.diag := rfl
@[simp] theorem State.tick_drvResult (s : State) :
    (s.tick).drvResult = s.drvResult := rfl
@[simp] theorem State.tick_leak (s : State) :
    (s.tick).leak = s.leak := rfl

/-! ### resetStep -/

@[simp] theorem resetStep_params (s : State) :
    (resetStep s).params = s.params := rfl
@[simp] theorem resetStep_host (s : State) :
    (resetStep s).host = s.host := rfl
@[simp] theorem resetStep_hostSched (s : State) :
    (resetStep s).hostSched = s.hostSched := rfl
@[simp] theorem resetStep_env (s : State) :
    (resetStep s).env = { s.env with draws := s.env.draws + 1 } := rfl
@[simp] theorem resetStep_drv (s : State) :
    (resetStep s).drv = s.drv := rfl
@[simp] theorem resetStep_diag (s : State) :
    (resetStep s).diag = s.diag := rfl
@[simp] theorem resetStep_drvResult (s : State) :
    (resetStep s).drvResult = s.drvResult := rfl
@[simp] theorem resetStep_leak (s : State) :
    (resetStep s).leak = leakAfterReset s := rfl
@[simp] theorem resetStep_regs_st (s : State) :
    (resetStep s).regs.st = 0#3 := rfl
@[simp] theorem resetStep_regs_ph (s : State) :
    (resetStep s).regs.ph = 0#4 := rfl
@[simp] theorem resetStep_regs_hi (s : State) :
    (resetStep s).regs.hi = Config.freeHi s.env.draws := rfl
@[simp] theorem resetStep_regs_lo (s : State) :
    (resetStep s).regs.lo = Config.freeLo s.env.draws := rfl
@[simp] theorem resetStep_regs_mag (s : State) :
    (resetStep s).regs.mag = Config.freeMag s.env.draws := rfl
@[simp] theorem resetStep_regs_ef (s : State) :
    (resetStep s).regs.ef = Config.freeEf s.env.draws := rfl
@[simp] theorem resetStep_regs_efs (s : State) :
    (resetStep s).regs.efs = 0#4 := rfl
@[simp] theorem resetStep_regs_stat (s : State) :
    (resetStep s).regs.stat = Config.freeStat s.env.draws := rfl
@[simp] theorem resetStep_regs_t0s (s : State) :
    (resetStep s).regs.t0s = narrow s.params.wSec (Config.freeT0s s.env.draws) := rfl
@[simp] theorem resetStep_regs_t0n (s : State) :
    (resetStep s).regs.t0n = Config.freeT0n s.env.draws := rfl
@[simp] theorem resetStep_regs_tss (s : State) :
    (resetStep s).regs.tss = narrow s.params.wSec (Config.freeTss s.env.draws) := rfl
@[simp] theorem resetStep_regs_tsn (s : State) :
    (resetStep s).regs.tsn = Config.freeTsn s.env.draws := rfl
@[simp] theorem resetStep_regs_nit (s : State) :
    (resetStep s).regs.nit = 0 := rfl
@[simp] theorem resetStep_regs_nem (s : State) :
    (resetStep s).regs.nem = 0 := rfl
@[simp] theorem resetStep_regs_nsk (s : State) :
    (resetStep s).regs.nsk = 0 := rfl
@[simp] theorem resetStep_regs_sct (s : State) :
    (resetStep s).regs.sct = 0 := rfl
@[simp] theorem resetStep_regs_polls (s : State) :
    (resetStep s).regs.polls = 0 := rfl
@[simp] theorem resetStep_regs_cmd (s : State) :
    (resetStep s).regs.cmd = 0#16 := rfl
@[simp] theorem resetStep_regs_err (s : State) :
    (resetStep s).regs.err = 0#3 := rfl
@[simp] theorem resetStep_regs_estate (s : State) :
    (resetStep s).regs.estate = 0#3 := rfl
@[simp] theorem resetStep_regs_eph (s : State) :
    (resetStep s).regs.eph = 0#4 := rfl
@[simp] theorem resetStep_regs_eaddr (s : State) :
    (resetStep s).regs.eaddr = 0#8 := rfl
@[simp] theorem resetStep_regs_eexp (s : State) :
    (resetStep s).regs.eexp = 0#16 := rfl
@[simp] theorem resetStep_regs_eact (s : State) :
    (resetStep s).regs.eact = 0#16 := rfl
@[simp] theorem resetStep_regs_busOwned (s : State) :
    (resetStep s).regs.busOwned = false := rfl
@[simp] theorem resetStep_regs_sinkOpen (s : State) :
    (resetStep s).regs.sinkOpen = false := rfl
@[simp] theorem resetStep_regs_actOwned (s : State) :
    (resetStep s).regs.actOwned = false := rfl
@[simp] theorem resetStep_regs_cfgCh (s : State) :
    (resetStep s).regs.cfgCh = 0#2 := rfl
@[simp] theorem resetStep_regs_cfgNsamp (s : State) :
    (resetStep s).regs.cfgNsamp = 0 := rfl
@[simp] theorem resetStep_regs_cfgStep (s : State) :
    (resetStep s).regs.cfgStep = 0 := rfl
@[simp] theorem resetStep_regs_cfgInc (s : State) :
    (resetStep s).regs.cfgInc = 0#16 := rfl
@[simp] theorem resetStep_regs_cfgLim (s : State) :
    (resetStep s).regs.cfgLim = 0#16 := rfl
@[simp] theorem resetStep_regs_cfgAct (s : State) :
    (resetStep s).regs.cfgAct = false := rfl

end Sys2Proof.Machine
end

