-- ==== Sys2Proof/Laws/Ops.lean ====
section
/-! SUPPORT. For each shared operation, one lemma that says everything it can do, and for the step one inversion lemma;
proofs about instructions and runs cite these and unfold none of the operations. -/

namespace Sys2Proof.Machine

/-! ## Values of a width that is a parameter -/

/-- A narrowed value fits in its width. -/
theorem narrow_lt (w : Nat) (x : Int) : narrow w x < 2 ^ w := by
  have hp : (0 : Int) < 2 ^ w := by positivity
  have := Int.emod_lt_of_pos x hp
  have := Int.emod_nonneg x hp.ne'
  unfold narrow
  zify
  omega

/-- A value that fits is narrowed to itself. -/
theorem narrow_of_lt {w n : Nat} (h : n < 2 ^ w) : narrow w n = n := by
  have hz : (n : Int) < 2 ^ w := by exact_mod_cast h
  rw [narrow, Int.emod_eq_of_lt (by omega) hz, Int.toNat_natCast]

/-- Every counter that was counted up fits in W_CNT bits. -/
theorem succCnt_lt (w : Nat) (c : Nat) : succCnt w c < 2 ^ w := narrow_lt w _

/-- Below the end of its range a counter counts up by one (R37). -/
theorem succCnt_of_lt {w : Nat} {c : Nat} (h : c + 1 < 2 ^ w) : succCnt w c = c + 1 := narrow_of_lt h

/-- POLLS counts up by one until it is saturated (R211). -/
theorem satSucc_cases (w : Nat) (c : Nat) :
    (c + 1 < 2 ^ w ∧ satSucc w c = c + 1) ∨ (2 ^ w ≤ c + 1 ∧ satSucc w c = 2 ^ w - 1) := by
  unfold satSucc
  omega

/-- An answer of `TimeNow` has its seconds in W_SEC bits (R63). -/
theorem Env.timeAnswer_sec_lt (w : Nat) (e : Env) : (e.timeAnswer w).sec < 2 ^ w := by
  simp only [Env.timeAnswer]
  exact narrow_lt w _

/-- What the port carries of the counts on it fits in W_CNT bits (R61). -/
theorem offered_lt (p : Params) (h : HostIn) :
    (offered p h).sampleCount < 2 ^ p.wCnt ∧ (offered p h).stepCount < 2 ^ p.wCnt := by
  simp only [offered]
  exact ⟨narrow_lt _ _, narrow_lt _ _⟩

/-- A configuration whose counts fit is carried as it is. -/
theorem offered_of_lt {p : Params} {h : HostIn} (hn : h.sampleCount < 2 ^ p.wCnt) (hs : h.stepCount < 2 ^ p.wCnt) :
    offered p h = h := by simp [offered, narrow_of_lt hn, narrow_of_lt hs]

/-! ## Register access -/

/-- A logical read succeeds exactly when the transport answers a raw word, with the swap of that word. -/
theorem State.memRead_eq_ok {a : Addr} {s : State} {v : Word16} :
    s.memRead a = .ok v ↔ ∃ w, s.env.readAnswer a = .ok w ∧ v = swap16 w := by
  unfold State.memRead
  cases h : s.env.readAnswer a <;> simp [eq_comm]

/-- A logical read fails exactly when the transport answers `Fail`. -/
theorem State.memRead_eq_fail {a : Addr} {s : State} : s.memRead a = .fail ↔ s.env.readAnswer a = .fail := by
  unfold State.memRead
  cases h : s.env.readAnswer a <;> simp

/-- What a logical read answers, by what the transport answered. -/
theorem State.memRead_of_ok {a : Addr} {s : State} {w : Word16} (h : s.env.readAnswer a = .ok w) :
    s.memRead a = .ok (swap16 w) := State.memRead_eq_ok.mpr ⟨w, h, rfl⟩

/-- A register write keeps the memory canonical. -/
theorem Env.wf_regsAfterWrite {e : Env} (h : e.regs.wf) (a : Addr) (raw : Word16) : (e.regsAfterWrite a raw).wf := by
  unfold Env.regsAfterWrite
  split
  · exact Memory.wf_writeReg h a raw
  · exact h

/-- A register write touches only the two bytes of its register. -/
theorem Env.readByte_regsAfterWrite (e : Env) {a : Addr} (raw : Word16) {b : Nat} (h0 : b ≠ regByte a)
    (h1 : b ≠ regByte a + 1) : (e.regsAfterWrite a raw).readByte b = e.regs.readByte b := by
  unfold Env.regsAfterWrite
  split
  · exact Memory.readByte_writeReg_of_ne raw h0 h1
  · rfl

/-! ## Errors and the end of an iteration -/

/-- `abortPlain` is `abort` with nothing given. -/
theorem abortPlain_eq (e : RunError) (st : StCode) (ph : Phase) (s : State) :
    abortPlain e st ph s = abort e st ph 0#8 0#16 0#16 0#4 s := rfl

/-- `abortAt` is `abort` with an address. -/
theorem abortAt_eq (e : RunError) (st : StCode) (ph : Phase) (a : Addr) (s : State) :
    abortAt e st ph a s = abort e st ph a 0#16 0#16 0#4 s := rfl

/-- Everything `advance` can do (R230): the run is exhausted, a step boundary is reached, or the next poll follows. -/
theorem advanceRegs_cases (w : Nat) (r : Regs) :
    (succCnt w r.nit = r.cfgNsamp
      ∧ advanceRegs w r = { r with nit := succCnt w r.nit, sct := nextSct w r, st := 5#3, ph := 0#4 })
    ∨ (succCnt w r.nit ≠ r.cfgNsamp ∧ r.cfgAct = true ∧ nextSct w r = r.cfgStep
        ∧ advanceRegs w r = { r with nit := succCnt w r.nit, sct := 0, st := 4#3, ph := 0#4 })
    ∨ (succCnt w r.nit ≠ r.cfgNsamp ∧ ¬ (r.cfgAct = true ∧ nextSct w r = r.cfgStep)
        ∧ advanceRegs w r = { r with nit := succCnt w r.nit, sct := nextSct w r, st := 2#3, ph := 0#4 }) := by
  unfold advanceRegs
  dsimp only
  split_ifs with h1 h2
  · exact .inl ⟨h1, rfl⟩
  · exact .inr (.inl ⟨h1, h2.1, h2.2, rfl⟩)
  · exact .inr (.inr ⟨h1, h2, rfl⟩)

@[simp] theorem advance_regs (s : State) : (advance s).regs = advanceRegs s.params.wCnt s.regs := rfl
@[simp] theorem advance_params (s : State) : (advance s).params = s.params := rfl
@[simp] theorem advance_host (s : State) : (advance s).host = s.host := rfl
@[simp] theorem advance_hostSched (s : State) : (advance s).hostSched = s.hostSched := rfl
@[simp] theorem advance_env (s : State) : (advance s).env = s.env := rfl
@[simp] theorem advance_drv (s : State) : (advance s).drv = s.drv := rfl
@[simp] theorem advance_diag (s : State) : (advance s).diag = s.diag := rfl
@[simp] theorem advance_drvResult (s : State) : (advance s).drvResult = s.drvResult := rfl
@[simp] theorem advance_leak (s : State) : (advance s).leak = s.leak := rfl
@[simp] theorem skip_regs (a : Addr) (s : State) :
    (skip a s).regs
      = advanceRegs s.params.wCnt { s.regs with nsk := succCnt s.params.wCnt s.regs.nsk } := rfl
@[simp] theorem pollFailure_regs (s : State) :
    (pollFailure s).regs = { s.regs with polls := satSucc s.params.wCnt s.regs.polls } := rfl
@[simp] theorem skip_params (a : Addr) (s : State) :
    (skip a s).params = s.params := rfl
@[simp] theorem pollFailure_params (s : State) : (pollFailure s).params = s.params := rfl
@[simp] theorem skip_host (a : Addr) (s : State) :
    (skip a s).host = s.host := rfl
@[simp] theorem pollFailure_host (s : State) : (pollFailure s).host = s.host := rfl
@[simp] theorem skip_hostSched (a : Addr) (s : State) :
    (skip a s).hostSched = s.hostSched := rfl
@[simp] theorem pollFailure_hostSched (s : State) : (pollFailure s).hostSched = s.hostSched := rfl
@[simp] theorem skip_env (a : Addr) (s : State) :
    (skip a s).env = s.env := rfl
@[simp] theorem pollFailure_env (s : State) : (pollFailure s).env = s.env := rfl
@[simp] theorem skip_drv (a : Addr) (s : State) :
    (skip a s).drv = s.drv := rfl
@[simp] theorem pollFailure_drv (s : State) : (pollFailure s).drv = s.drv := rfl
@[simp] theorem skip_diag (a : Addr) (s : State) :
    (skip a s).diag = s.diag ++ [.skipEvt a] := rfl
@[simp] theorem pollFailure_diag (s : State) : (pollFailure s).diag = s.diag ++ [.pollfailEvt] := rfl
@[simp] theorem skip_drvResult (a : Addr) (s : State) :
    (skip a s).drvResult = s.drvResult := rfl
@[simp] theorem pollFailure_drvResult (s : State) : (pollFailure s).drvResult = s.drvResult := rfl
@[simp] theorem skip_leak (a : Addr) (s : State) :
    (skip a s).leak = s.leak := rfl
@[simp] theorem pollFailure_leak (s : State) : (pollFailure s).leak = s.leak := rfl
/-- Everything `releaseActuator` can do (R251, R256). -/
theorem releaseActuator_cases (s : State) :
    (s.regs.actOwned = true
      ∧ releaseActuator s = { s with env := s.env.afterActRelease, regs := { s.regs with actOwned := false } })
    ∨ (s.regs.actOwned = false ∧ releaseActuator s = s) := by
  unfold releaseActuator
  cases h : s.regs.actOwned <;> simp

/-! ## The driver -/

/-- Everything the writes of INIT can do (R167): every entry was written and answered `Ok`, or the entry `k` was
answered `Fail` after the entries before it were answered `Ok`, and nothing was written after it. -/
theorem driverInit_cases (tbl : List (Addr × Word16)) (n : Nat) (s : State) :
    (driverInit tbl n s).regs = s.regs ∧ (driverInit tbl n s).params = s.params
      ∧ (driverInit tbl n s).host = s.host ∧ (driverInit tbl n s).hostSched = s.hostSched
      ∧ (driverInit tbl n s).drv = s.drv ∧ (driverInit tbl n s).diag = s.diag ∧ (driverInit tbl n s).leak = s.leak
      ∧ (driverInit tbl n s).env.transport = s.env.transport
      ∧ ((driverInit tbl n s).drvResult = some .unit
            ∧ (driverInit tbl n s).env.trace
              = s.env.trace ++ tbl.map (fun x => .busWrite x.1 (swap16 x.2) .ok)
          ∨ ∃ k x, tbl[k]? = some x ∧ (driverInit tbl n s).drvResult = some (.ioFailure x.1 (some (n + k)))
            ∧ (driverInit tbl n s).env.trace
              = s.env.trace ++ (tbl.take k).map (fun x => .busWrite x.1 (swap16 x.2) .ok)
                ++ [.busWrite x.1 (swap16 x.2) .fail]) := by
  induction tbl generalizing n s with
  | nil => simp [driverInit]
  | cons x rest ih =>
    obtain ⟨a, v⟩ := x
    simp only [driverInit]
    split
    · rename_i hw
      obtain ⟨h1, h2, h3, h4, h5, h6, h7, h8, h9⟩ := ih (n + 1) (s.afterMemWrite a v)
      have hw' : s.env.writeAnswer a (swap16 v) = .ok := hw
      refine ⟨h1, h2, h3, h4, h5, h6, h7, h8, ?_⟩
      rcases h9 with ⟨hr, ht⟩ | ⟨k, x, hk, hr, ht⟩
      · exact .inl ⟨hr, by rw [ht]; simp [hw']⟩
      · refine .inr ⟨k + 1, x, by simpa using hk, by rw [hr]; congr 3; omega, by rw [ht]; simp [hw']⟩
    · rename_i hw
      have hw' : s.env.writeAnswer a (swap16 v) = .fail := hw
      exact ⟨rfl, rfl, rfl, rfl, rfl, rfl, rfl, rfl, .inr ⟨0, (a, v), rfl, rfl, by simp [hw']⟩⟩

/-- The writes of INIT keep the memory canonical. -/
theorem wf_driverInit {tbl : List (Addr × Word16)} {n : Nat} {s : State} (h : s.env.regs.wf) :
    (driverInit tbl n s).env.regs.wf := by
  induction tbl generalizing n s with
  | nil => exact h
  | cons x rest ih =>
    simp only [driverInit]
    split
    · exact ih (Env.wf_regsAfterWrite h _ _)
    · exact Env.wf_regsAfterWrite h _ _

/-! ## Decoding the program counter -/

/-- The code (ST, PH) decodes to the handler of ST with the operand PH. -/
theorem decodeFsm_pcCode (st : StCode) (ph : Phase) :
    decodeFsm (pcCode st ph) =
      match st.toNat with
      | 0 => .stIdle ph
      | 1 => .stInitializing ph
      | 2 => .stPolling ph
      | 3 => .stSampling ph
      | 4 => .stActuating ph
      | 5 => .stTerminating ph
      | 6 => .stDone ph
      | _ => .stAborted ph := by
  revert st ph
  decide

/-- IDLE is the program counter value (0, 0). -/
theorem State.inIdle_iff {s : State} : s.inIdle = true ↔ s.regs.st = 0#3 ∧ s.regs.ph = 0#4 := by
  simp [State.inIdle]

/-- With no driver program, and outside IDLE with any, the next instruction is the handler of the program counter. -/
theorem State.fetch_of_handler {s : State} (h : s.drv = [] ∨ ¬ (s.regs.st = 0#3 ∧ s.regs.ph = 0#4)) :
    s.fetch = .ok (decodeFsm (pcCode s.regs.st s.regs.ph)) := by
  rw [← State.inIdle_iff] at h
  rcases h with h | h <;> simp [State.fetch, State.nextCode, h, decode, State.pc]

/-- In IDLE the next instruction is what the first word of the driver program decodes to. -/
theorem State.fetch_of_program {s : State} {w : DrvWord} {rest : List DrvWord} (hst : s.regs.st = 0#3)
    (hph : s.regs.ph = 0#4) (h : s.drv = w :: rest) : s.fetch = decodeDrv w := by
  simp [State.fetch, State.nextCode, State.inIdle_iff.mpr ⟨hst, hph⟩, h, decode]

/-- Everything the next fetch can be: a handler that leaves the driver program alone, or the first word of the program
in IDLE. -/
theorem State.fetch_cases (s : State) :
    ((s.drv = [] ∨ ¬ (s.regs.st = 0#3 ∧ s.regs.ph = 0#4)) ∧ s.begin.drv = s.drv
        ∧ s.fetch = .ok (decodeFsm (pcCode s.regs.st s.regs.ph)))
      ∨ ∃ w rest, s.regs.st = 0#3 ∧ s.regs.ph = 0#4 ∧ s.drv = w :: rest ∧ s.begin.drv = rest
        ∧ s.fetch = decodeDrv w := by
  by_cases hi : s.regs.st = 0#3 ∧ s.regs.ph = 0#4
  · cases hd : s.drv with
    | nil => exact .inl ⟨.inl rfl, by simp [hd], State.fetch_of_handler (.inl hd)⟩
    | cons w rest =>
      exact .inr ⟨w, rest, hi.1, hi.2, rfl, by simp [hd, State.inIdle_iff.mpr hi], State.fetch_of_program hi.1 hi.2 hd⟩
  · exact .inl ⟨.inr hi, by simp [mt State.inIdle_iff.mp hi], State.fetch_of_handler (.inr hi)⟩

/-! ## The rest of a driver program -/

/-- Everything the caller's rule can do (R16): an IdentityMismatch ends the program (R176), whatever else happened leaves
the rest of it. -/
theorem programAfter_cases (r : Option DrvResult) (rest : List DrvWord) :
    (∃ a e v, r = some (.identityMismatch a e v)) ∧ programAfter r rest = []
      ∨ (∀ a e v, r ≠ some (.identityMismatch a e v)) ∧ programAfter r rest = rest := by
  unfold programAfter
  split <;> simp

/-- Without a result, that is after every handler, the program stays. -/
@[simp] theorem programAfter_none (rest : List DrvWord) : programAfter none rest = rest := rfl

/-! ## The step -/

/-- Everything a step that answers a next state can do: the reset step, or one instruction between taking its code and
the caller's rule and the host's inputs moving on. -/
theorem step_cases {s t : State} (h : step s = .next t) :
    paramsLegal s.params = true
      ∧ (s.host.rst = true ∧ t = (resetStep { s with diag := [], drvResult := none }).tick
        ∨ s.host.rst = false ∧ ∃ i u, s.fetch = .ok i ∧ exec i s.begin = .next u ∧ t = u.settle.tick) := by
  unfold step at h
  split at h
  · rename_i hp
    refine ⟨hp, ?_⟩
    split at h
    · exact .inl ⟨‹_›, by cases h; rfl⟩
    · rename_i hr
      refine .inr ⟨by simpa using hr, ?_⟩
      split at h
      · rename_i i hi
        unfold tickOutcome at h
        split at h
        · rename_i u hu
          exact ⟨i, u, hi, hu, by cases h; rfl⟩
        · cases h
        · cases h
      · cases h
  · cases h

/-- A step in the other direction: an instruction that answers a next state is what the step runs. -/
theorem step_of_exec {s u : State} {i : Instr} (hp : paramsLegal s.params = true) (hr : s.host.rst = false)
    (hf : s.fetch = .ok i) (he : exec i s.begin = .next u) : step s = .next u.settle.tick := by
  simp [step, hp, hr, hf, he, tickOutcome]

/-! ## Runs -/

/-- A run of one more step, on any machine: what its first step answers decides. -/
theorem host_run_succ (M : Host.Core) (n : Nat) (s : M.State) :
    M.run (n + 1) s = match M.step s with
      | .next u => M.run n u
      | .fault r => .fault r
      | .refused r => .refused r := rfl

/-- A run of one more step goes on from the state that its first step answers. -/
theorem run_succ {s u : State} (n : Nat) (h : step s = .next u) :
    Host.Core.run Sys2Proof.core (n + 1) s = Host.Core.run Sys2Proof.core n u := by
  have hs : Sys2Proof.core.step s = .next u := h
  rw [host_run_succ Sys2Proof.core n s, hs]

/-- Everything a run of one more step that answers a next state can do: a step, then the rest of the run. -/
theorem run_succ_cases {n : Nat} {s t : State} (h : Host.Core.run Sys2Proof.core (n + 1) s = .next t) :
    ∃ u, step s = .next u ∧ Host.Core.run Sys2Proof.core n u = .next t := by
  have hr := host_run_succ Sys2Proof.core n s
  cases hs : Sys2Proof.core.step s with
  | next u => exact ⟨u, hs, by rw [← h, hr, hs]⟩
  | fault r => rw [h, hs] at hr; cases hr
  | refused r => rw [h, hs] at hr; cases hr

end Sys2Proof.Machine
end

