-- ==== Sys2Proof/Laws/PerInstr.lean ====
section
/-! SUPPORT. Statements about every instruction as syntax, one lemma per constructor: the encoding of an instruction lies
in the row of the opcode table that is its own (R143, R141). -/

namespace Sys2Proof.Laws

/-- The state whose handler an instruction is (R141); none for a driver operation. -/
def handlerState : Instr → Option StCode
  | .rdreg _ | .wrreg _ _ | .init _ | .rdch _ | .verid _ | .swap16 _ => none
  | .stIdle _ => some 0#3
  | .stInitializing _ => some 1#3
  | .stPolling _ => some 2#3
  | .stSampling _ => some 3#3
  | .stActuating _ => some 4#3
  | .stTerminating _ => some 5#3
  | .stDone _ => some 6#3
  | .stAborted _ => some 7#3

/-- An instruction that the encoding can hold is encoded as a word of its own row: a driver operation as a DRV word with
`W & mask = match` (R143), a state handler as a code whose bits 6 to 4 are its state (R141). -/
def EncodeSelectsRow.Statement (i : Instr) : Prop :=
  i.encodable = true →
    match encode i with
    | .drv w => ∃ op, i.drvOpCode = some op ∧ selectsRow w op = true
    | .fsm c => ∃ st, handlerState i = some st ∧ c &&& 0x70#7 = st ++ 0#4

/-- Masking a code with 0x70 leaves the state and clears the phase. -/
theorem pcCode_and (st : StCode) (ph : Phase) : pcCode st ph &&& 0x70#7 = st ++ 0#4 := by
  revert st ph
  decide

/-- Masking four fields side by side masks each of them. -/
theorem and_fields (r r' : BitVec 5) (op op' : BitVec 3) (a a' : BitVec 8) (d d' : Word16) :
    (r ++ op ++ a ++ d) &&& (r' ++ op' ++ a' ++ d') = (r &&& r') ++ (op &&& op') ++ (a &&& a') ++ (d &&& d') := by
  rw [BitVec.and_append, BitVec.and_append, BitVec.and_append]

/-- A DRV word under the mask of WRREG, which covers the reserved bits and the operation code. -/
theorem drvWord_and_op (op : BitVec 3) (a : BitVec 8) (d : Word16) :
    drvWord op a d &&& 0xFF000000#32 = drvWord op 0#8 0#16 :=
  (and_fields 0#5 (BitVec.allOnes 5) op (BitVec.allOnes 3) a 0#8 d 0#16).trans
    (by simp only [BitVec.and_allOnes, BitVec.and_zero]; rfl)

/-- A DRV word under the mask of RDREG, which covers all but the field a. -/
theorem drvWord_and_opD (op : BitVec 3) (a : BitVec 8) (d : Word16) :
    drvWord op a d &&& 0xFF00FFFF#32 = drvWord op 0#8 d :=
  (and_fields 0#5 (BitVec.allOnes 5) op (BitVec.allOnes 3) a 0#8 d (BitVec.allOnes 16)).trans
    (by simp only [BitVec.and_allOnes, BitVec.and_zero]; rfl)

/-- A DRV word under the mask of VERID and SWAP16, which covers all but the field d. -/
theorem drvWord_and_opA (op : BitVec 3) (a : BitVec 8) (d : Word16) :
    drvWord op a d &&& 0xFFFF0000#32 = drvWord op a 0#16 :=
  (and_fields 0#5 (BitVec.allOnes 5) op (BitVec.allOnes 3) a (BitVec.allOnes 8) d 0#16).trans
    (by simp only [BitVec.and_allOnes, BitVec.and_zero]; rfl)

theorem EncodeSelectsRow.rdreg (a : Addr) : EncodeSelectsRow.Statement (.rdreg a) := fun _ =>
  ⟨1, rfl, by simp only [selectsRow, drvRow, drvWord_and_opD]; decide⟩

theorem EncodeSelectsRow.wrreg (a : Addr) (d : Word16) : EncodeSelectsRow.Statement (.wrreg a d) := fun _ =>
  ⟨2, rfl, by simp only [selectsRow, drvRow, drvWord_and_op]; decide⟩

theorem EncodeSelectsRow.init (ch : BitVec 2) : EncodeSelectsRow.Statement (.init ch) := fun h =>
  ⟨3, rfl, by simp only [Instr.encodable, Instr.channelOk, beq_iff_eq] at h; subst h; decide⟩

theorem EncodeSelectsRow.rdch (ch : BitVec 2) : EncodeSelectsRow.Statement (.rdch ch) := fun h =>
  ⟨4, rfl, by simp only [Instr.encodable, Instr.channelOk, beq_iff_eq] at h; subst h; decide⟩

theorem EncodeSelectsRow.verid (d : Word16) : EncodeSelectsRow.Statement (.verid d) := fun _ =>
  ⟨5, rfl, by simp only [selectsRow, drvRow, drvWord_and_opA]; decide⟩

theorem EncodeSelectsRow.swap16 (d : Word16) : EncodeSelectsRow.Statement (.swap16 d) := fun _ =>
  ⟨6, rfl, by simp only [selectsRow, drvRow, drvWord_and_opA]; decide⟩

theorem EncodeSelectsRow.stIdle (ph : Phase) : EncodeSelectsRow.Statement (.stIdle ph) := fun _ =>
  ⟨0#3, rfl, pcCode_and _ _⟩

theorem EncodeSelectsRow.stInitializing (ph : Phase) : EncodeSelectsRow.Statement (.stInitializing ph) := fun _ =>
  ⟨1#3, rfl, pcCode_and _ _⟩

theorem EncodeSelectsRow.stPolling (ph : Phase) : EncodeSelectsRow.Statement (.stPolling ph) := fun _ =>
  ⟨2#3, rfl, pcCode_and _ _⟩

theorem EncodeSelectsRow.stSampling (ph : Phase) : EncodeSelectsRow.Statement (.stSampling ph) := fun _ =>
  ⟨3#3, rfl, pcCode_and _ _⟩

theorem EncodeSelectsRow.stActuating (ph : Phase) : EncodeSelectsRow.Statement (.stActuating ph) := fun _ =>
  ⟨4#3, rfl, pcCode_and _ _⟩

theorem EncodeSelectsRow.stTerminating (ph : Phase) : EncodeSelectsRow.Statement (.stTerminating ph) := fun _ =>
  ⟨5#3, rfl, pcCode_and _ _⟩

theorem EncodeSelectsRow.stDone (ph : Phase) : EncodeSelectsRow.Statement (.stDone ph) := fun _ =>
  ⟨6#3, rfl, pcCode_and _ _⟩

theorem EncodeSelectsRow.stAborted (ph : Phase) : EncodeSelectsRow.Statement (.stAborted ph) := fun _ =>
  ⟨7#3, rfl, pcCode_and _ _⟩

end Sys2Proof.Laws
end

