-- ==== Sys2Proof/Tests/Slice0.lean ====
section
/-! SUPPORT. Tests: ill-formed instructions refused, one written-out word per constructor decoded, single steps against
the vectors of 95_test_vectors.md (named D-… as there), and for each obligation with hypotheses a concrete state and
operands that meet them. -/

namespace Sys2Proof.Tests

open Sys2Proof Sys2Proof.Machine Sys2Proof.Safety

/-! ## Helpers -/

/-- The registers of the mock bus M0 (95_test_vectors.md section 0), raw words in wire order. -/
def memoryM0 : Memory :=
  [(0, 0x3A#8), (1, 0xBC#8), (2, 0x12#8), (3, 0x34#8), (49, 0x40#8), (254, 0x30#8), (255, 0x55#8)]

/-- The reset state with the mock bus M0 behind the ports. -/
def m0 : State := { State.reset with env := { Env.unknown with transport := .mockBus, regs := memoryM0 } }

/-- M0 with the block at a program counter value. -/
def pcAt (st : StCode) (ph : Phase) : State := { m0 with regs := { Regs.reset with st := st, ph := ph } }

/-- The same with a script for the register transactions. -/
def scripted (q : List RegReply) (s : State) : State := { s with env := { s.env with regQ := q } }

/-- The same with the answers of `TimeNow`. -/
def timed (q : List Instant) (s : State) : State := { s with env := { s.env with timeQ := q } }

/-- Change the registers. -/
def setRegs (f : Regs → Regs) (s : State) : State := { s with regs := f s.regs }

/-- The next state, if there is one. -/
def nextOf : Host.Outcome State Fault Refusal → Option State
  | .next s => some s
  | .fault _ => none
  | .refused _ => none

/-- What an instruction makes of a state, seen through `f`. -/
def seen {α : Type} (i : Instr) (s : State) (f : State → α) : Option α := (nextOf (exec i s)).map f

/-! ## Ill-formed instructions are refused -/

theorem test_wf_refuses_channel : Instr.channelOk (.rdch 1#2) = false ∧ Instr.channelOk (.init 3#2) = false := by decide
theorem test_wf_refuses_address : Instr.addressOk Config.paramsT (.rdreg 0x02#8) = false := by decide
theorem test_wf_refuses_phase :
    Instr.phaseOk (.stInitializing 10#4) = false ∧ Instr.phaseOk (.stTerminating 3#4) = false := by decide
theorem test_wf_accepts : Instr.wf Config.paramsT (.wrreg 0x1A#8 0x1601#16) = true := by decide

/-! ## Decoding of words written out from R140, R143 and R141 (D-DEC) -/

theorem test_decode_rdreg : decodeTableWord 32 0x017F0000 = some (.rdreg 0x7F#8) := by decide
theorem test_decode_wrreg : decodeTableWord 32 0x021A1601 = some (.wrreg 0x1A#8 0x1601#16) := by decide
theorem test_decode_init : decodeTableWord 32 0x03000000 = some (.init 0#2) := by decide
theorem test_decode_rdch : decodeTableWord 32 0x04000000 = some (.rdch 0#2) := by decide
theorem test_decode_verid : decodeTableWord 32 0x05003055 = some (.verid 0x3055#16) := by decide
theorem test_decode_swap16 : decodeTableWord 32 0x0600FFFF = some (.swap16 0xFFFF#16) := by decide
theorem test_decode_idle : decodeTableWord 8 0x00 = some (.stIdle 0#4) := by decide
theorem test_decode_initializing : decodeTableWord 8 0x19 = some (.stInitializing 9#4) := by decide
theorem test_decode_polling : decodeTableWord 8 0x20 = some (.stPolling 0#4) := by decide
theorem test_decode_sampling : decodeTableWord 8 0x33 = some (.stSampling 3#4) := by decide
theorem test_decode_actuating : decodeTableWord 8 0x40 = some (.stActuating 0#4) := by decide
theorem test_decode_terminating : decodeTableWord 8 0x52 = some (.stTerminating 2#4) := by decide
theorem test_decode_done : decodeTableWord 8 0x60 = some (.stDone 0#4) := by decide
theorem test_decode_aborted : decodeTableWord 8 0x73 = some (.stAborted 3#4) := by decide

/-- Every refused word of D-DEC but the one that only REGSET refuses. -/
theorem test_decode_refused :
    [0x00000000, 0x07000000, 0x0A1A1601, 0x817F0000, 0x017F0001, 0x03000001, 0x04010000, 0x04040000, 0x05013055,
      0x06FF0000].all (fun w => (decodeTableWord 32 w).isNone) = true := by decide

/-- The first instruction after reset is the word stored where the step fetches it: every row runs. -/
theorem test_withFetchWord_runs :
    [(32, 0x01000000), (32, 0x02000000), (32, 0x03000000), (32, 0x04000000), (32, 0x05000000), (32, 0x06000000),
      (8, 0x00), (8, 0x10), (8, 0x20), (8, 0x30), (8, 0x40), (8, 0x50), (8, 0x60), (8, 0x70)].all
      (fun x => (nextOf (step (State.reset.withFetchWord x.1 x.2))).isSome) = true := by decide

/-! ## Single steps -/

/-- D-SWAP. -/
theorem test_swap16 :
    seen (.swap16 0xABCD#16) m0 (·.drvResult) = some (some (.word 0xCDAB#16))
      ∧ seen (.swap16 0x8001#16) m0 (·.drvResult) = some (some (.word 0x0180#16)) := by decide

/-- D-RW: the raw word 0xBC3A is the logical value 0x3ABC. -/
theorem test_rdreg : seen (.rdreg 0x00#8) m0 (·.drvResult) = some (some (.word 0x3ABC#16)) := by decide

/-- D-RW: one transaction, no retry. -/
theorem test_rdreg_fail :
    seen (.rdreg 0x18#8) (scripted [.fail] m0) (fun t => (t.drvResult, t.env.trace))
      = some (some (.ioFailure 0x18#8 none), [.busRead 0x18#8 .fail]) := by decide

/-- D-RW: the mock bus then holds 0xEFBE in register 0x10. -/
theorem test_wrreg :
    seen (.wrreg 0x10#8 0xBEEF#16) m0 (fun t => (t.drvResult, t.env.regs.readReg 0x10#8))
      = some (some .unit, 0xEFBE#16) := by decide

/-- D-RW. -/
theorem test_wrreg_fail :
    seen (.wrreg 0x08#8 0x04D6#16) (scripted [.fail] m0) (fun t => (t.drvResult, t.env.trace))
      = some (some (.ioFailure 0x08#8 none), [.busWrite 0x08#8 0xD604#16 .fail]) := by decide

/-- D-INIT: the six writes in order. -/
theorem test_init :
    seen (.init 0#2) m0 (fun t => (t.drvResult, t.env.trace))
      = some (some .unit,
        [.busWrite 0x08#8 0xD604#16 .ok, .busWrite 0x10#8 0x0A00#16 .ok, .busWrite 0x14#8 0x0210#16 .ok,
          .busWrite 0x19#8 0x0000#16 .ok, .busWrite 0x1B#8 0x0C02#16 .ok, .busWrite 0x1A#8 0x0116#16 .ok]) := by decide

/-- D-INIT: failing transaction #3. -/
theorem test_init_fail :
    seen (.init 0#2) (scripted [.byTransport, .byTransport, .fail] m0) (fun t => (t.drvResult, t.env.trace.length))
      = some (some (.ioFailure 0x14#8 (some 2)), 3) := by decide

/-- D-RDCH, S3. -/
theorem test_rdch : seen (.rdch 0#2) m0 (·.drvResult) = some (some (.reading 0x0ABC1234#28 0x3#4)) := by decide

/-- D-RDCH: the top bit of the field does not extend its sign. -/
theorem test_rdch_top_bit :
    seen (.rdch 0#2) (scripted [.ok 0x0008#16, .ok 0x0000#16] m0) (·.drvResult)
      = some (some (.reading 0x8000000#28 0x0#4)) := by decide

/-- D-VERID. -/
theorem test_verid : seen (.verid 0x3055#16) m0 (·.drvResult) = some (some .unit) := by decide

/-- D-VERID: a transport that already swapped. -/
theorem test_verid_mismatch :
    seen (.verid 0x3055#16) (scripted [.ok 0x3055#16] m0) (·.drvResult)
      = some (some (.identityMismatch 0x7F#8 0x3055#16 0x5530#16)) := by decide

/-- An offered configuration with the actuator: 10 samples, steps of 2, increment 100, the given limit. -/
def offer (lim : Word16) : HostIn :=
  { HostIn.idle with start := true, sampleCount := 10, stepCount := 2, cmdInc := 100#16, cmdLimit := lim, actEn := true }

/-- D-IDLE: lim = 32767 - 100 exactly is valid. -/
theorem test_idle_valid :
    seen (.stIdle 0#4) { m0 with host := offer 32667#16 } (fun t => (t.regs.st, t.regs.ph, t.regs.actOwned, t.regs.err))
      = some (1#3, 0#4, true, 0#3) := by decide

/-- D-IDLE: one more is not. -/
theorem test_idle_invalid :
    seen (.stIdle 0#4) { m0 with host := offer 32668#16 }
      (fun t => (t.regs.st, t.regs.ph, t.regs.err, t.regs.cfgLim, t.env.trace)) = some (7#3, 0#4, 4#3, 32668#16, [])
  := by decide

/-- D-INITZ, (1, 5). -/
theorem test_initializing_fail :
    seen (.stInitializing 5#4) (scripted [.fail] (pcAt 1#3 5#4))
      (fun t => (t.regs.st, t.regs.err, t.regs.estate, t.regs.eph, t.regs.eaddr)) = some (7#3, 1#3, 1#3, 5#4, 0x14#8) := by
  decide

/-- D-INITZ, (1, 9): another identity. -/
theorem test_initializing_mismatch :
    seen (.stInitializing 9#4) (scripted [.ok 0x1111#16] (pcAt 1#3 9#4))
      (fun t => (t.regs.st, t.regs.err, t.regs.eph, t.regs.eaddr, t.regs.eexp, t.regs.eact))
      = some (7#3, 2#3, 9#4, 0x7F#8, 0x3055#16, 0x1111#16) := by decide

/-- D-POLL: bit 6 of the raw word is bit 14 of the logical word. -/
theorem test_polling_not_ready :
    seen (.stPolling 0#4) (scripted [.ok 0x0040#16] (pcAt 2#3 0#4)) (fun t => (t.regs.st, t.regs.stat, t.regs.polls))
      = some (2#3, 0x4000#16, 1) := by decide

/-- D-POLL: other bits are ignored, POLLS is cleared. -/
theorem test_polling_ready :
    seen (.stPolling 0#4) (scripted [.ok 0x4800#16] (setRegs ({ · with polls := 7 }) (pcAt 2#3 0#4)))
      (fun t => (t.regs.st, t.regs.stat, t.regs.polls)) = some (3#3, 0x0048#16, 0) := by decide

/-- D-SAMP, phase 1. -/
theorem test_sampling_low :
    seen (.stSampling 1#4) (setRegs ({ · with hi := 0x3ABC#16, efs := 0x8#4 }) (pcAt 3#3 1#4))
      (fun t => (t.regs.lo, t.regs.mag, t.regs.ef, t.regs.efs, t.diag))
      = some (0x1234#16, 0x0ABC1234#28, 0x3#4, 0xB#4, [.warnEvt 0x3#4]) := by decide

/-- D-SAMP: the seconds of the source wrapped, and a source that went backwards, modulo 2^32; and another width. -/
theorem test_elapsed_wraps :
    elapsed 32 4294967295 1 0#30 0#30 = (2, 0#30) ∧ elapsed 32 7 7 1#30 0#30 = (4294967295, 999999999#30)
      ∧ elapsed 3 7 1 0#30 0#30 = (2, 0#30) := by decide

/-- D-POLL: POLLS saturates at the end of its width. -/
theorem test_polls_saturates : satSucc 32 4294967295 = 4294967295 ∧ satSucc 4 15 = 15 ∧ satSucc 4 14 = 15 := by decide

/-- D-SAMP, phase 2: a borrow from the seconds. -/
theorem test_sampling_time :
    seen (.stSampling 2#4) (timed [⟨102, 500⟩]
        (setRegs ({ · with t0s := 100, t0n := 999999000#30 }) (pcAt 3#3 2#4)))
      (fun t => (t.regs.ph, t.regs.tss, t.regs.tsn)) = some (3#4, 1, 1500#30) := by decide

/-- D-ADV: exhaustion and boundary together, exhaustion wins and SCT keeps 2. -/
theorem test_advance :
    (let r := advanceRegs 32 { Regs.reset with nit := 3, cfgNsamp := 4, cfgAct := true, sct := 1, cfgStep := 2 }
     (r.st, r.ph, r.nit, r.sct)) = (5#3, 0#4, 4, 2) := by decide

/-- D-ACT. -/
theorem test_actuating_sends :
    seen (.stActuating 0#4) (setRegs ({ · with cmd := 100#16, cfgInc := 100#16, cfgLim := 150#16 }) (pcAt 4#3 0#4))
      (fun t => (t.regs.st, t.regs.cmd, t.env.trace))
      = some (2#3, 200#16, [.actSend [0x6400#16, 0x6400#16] (.ok 4)]) := by decide

/-- D-ACT: -600 exceeds 500, nothing is sent. -/
theorem test_actuating_limit :
    seen (.stActuating 0#4) (setRegs ({ · with cmd := 0xFDA8#16, cfgInc := 0xFED4#16, cfgLim := 500#16 }) (pcAt 4#3 0#4))
      (fun t => (t.regs.st, t.regs.cmd, t.env.trace)) = some (5#3, 0xFDA8#16, []) := by decide

/-- All three resources owned. -/
def owning (s : State) : State := setRegs ({ · with busOwned := true, sinkOpen := true, actOwned := true }) s

/-- D-TERM, (5, 0) with a failed close. -/
theorem test_terminating_close_fails :
    seen (.stTerminating 0#4) (let s := owning (pcAt 5#3 0#4); { s with env := { s.env with closeQ := [.fail] } })
      (fun t => (t.regs.st, t.regs.ph, t.regs.err, t.regs.sinkOpen, t.regs.actOwned))
      = some (7#3, 1#4, 5#3, false, true) := by decide

/-- D-TERM, (5, 1). -/
theorem test_terminating_actuator :
    seen (.stTerminating 1#4) (owning (pcAt 5#3 1#4)) (fun t => (t.regs.ph, t.regs.actOwned, t.env.trace))
      = some (2#4, false, [.actRelease]) := by decide

/-- D-TERM, (6, 0). -/
theorem test_done : seen (.stDone 0#4) (pcAt 6#3 0#4) (fun t => (t.regs, t.env.trace)) = some ((pcAt 6#3 0#4).regs, []) := by
  decide

/-- D-TERM, (7, 0): whatever the sink answers, and the error record stays. -/
theorem test_aborted_close :
    seen (.stAborted 0#4)
      (let s := setRegs ({ · with err := 1#3 }) (owning (pcAt 7#3 0#4)); { s with env := { s.env with closeQ := [.fail] } })
      (fun t => (t.regs.ph, t.regs.err, t.regs.sinkOpen, t.regs.busOwned)) = some (1#4, 1#3, false, true) := by decide

/-- D-TERM, (7, 2). -/
theorem test_aborted_bus :
    seen (.stAborted 2#4) (owning (pcAt 7#3 2#4)) (fun t => (t.regs.ph, t.regs.busOwned, t.env.trace))
      = some (3#4, false, [.busRelease]) := by decide

/-- D-REC. -/
theorem test_sample_line :
    Sample.line ⟨0#2, 1, 1500#30, 0x0ABC1234#28, 0x3#4⟩ = "0, 1.000001500, 180097588" := by decide

/-- D-RST. -/
theorem test_reset_step :
    (nextOf (step { owning (pcAt 3#3 1#4) with host := { HostIn.idle with rst := true } })).map
      (fun t => (t.regs.st, t.regs.ph, t.regs.busOwned, t.leak, t.env.trace))
      = some (0#3, 0#4, false, ⟨true, true, true⟩, []) := by decide

/-- Log entry 29: the words of a driver program are still there after a reset step. -/
theorem test_reset_keeps_program :
    (nextOf (step { m0 with drv := [0x06003055#32], host := { HostIn.idle with rst := true } })).map (·.drv)
      = some [0x06003055#32] := by decide

/-- R286, R295 and log entry 27: outside IDLE a waiting WRREG is not performed; the handler runs and the word stays. -/
theorem test_program_waits_outside_idle :
    (nextOf (step { owning (pcAt 7#3 2#4) with drv := [0x021A1601#32] })).map (fun t => (t.regs.ph, t.drv, t.env.trace))
        = some (3#4, [0x021A1601#32], [.busRelease])
      ∧ (nextOf (step { pcAt 6#3 0#4 with drv := [0x021A1601#32] })).map (fun t => (t.drv, t.env.trace))
        = some ([0x021A1601#32], []) := by decide

/-- P1b, R176 and log entry 30: the word after a VERID that found another identity is dropped. -/
theorem test_mismatch_ends_program :
    (nextOf (step { scripted [.ok 0x1111#16] m0 with drv := [0x05003055#32, 0x01000000#32] })).map
      (fun t => (t.drvResult, t.drv, t.env.trace))
      = some (some (.identityMismatch 0x7F#8 0x3055#16 0x1111#16), [], [.busRead 0x7F#8 (.ok 0x1111#16)]) := by decide

/-- Log entry 30: the word after an operation that failed on the bus stays. -/
theorem test_ioFailure_keeps_program :
    (nextOf (step { scripted [.fail] m0 with drv := [0x05003055#32, 0x01000000#32] })).map (fun t => (t.drvResult, t.drv))
      = some (some (.ioFailure 0x7F#8 none), [0x01000000#32]) := by decide

/-! ## Witnesses: states and operands that meet the hypotheses of the obligations, each clause at a boundary -/

theorem witness_DecodeOfEncodeIsIdentity :
    (Instr.init 0#2).encodable = true ∧ (Instr.wrreg 0xFF#8 0xFFFF#16).encodable = true
      ∧ (Instr.stAborted 15#4).encodable = true := by decide

theorem witness_EncodeOfDecodeIsIdentity :
    decode (.drv 0x0600FFFF#32) = .ok (.swap16 0xFFFF#16) ∧ decode (.fsm 0x7F#7) = .ok (.stAborted 15#4) := ⟨rfl, rfl⟩

/-- One word for each way to be illegal, at the lowest or highest bit of its field. -/
theorem witness_IllegalDescriptorsAreRefused :
    paramsLegal m0.params = true ∧ m0.host.rst = false ∧ AtIdle m0.regs
      ∧ (0x00000000#32).extractLsb' 24 3 = 0#3 ∧ (0x07000000#32).extractLsb' 24 3 = 7#3
      ∧ (0x0A1A1601#32).extractLsb' 27 5 ≠ 0#5 ∧ (0x817F0000#32).extractLsb' 27 5 ≠ 0#5
      ∧ ((0x017F0001#32).extractLsb' 24 3 = 1#3 ∧ (0x017F0001#32).extractLsb' 0 16 ≠ 0#16)
      ∧ ((0x03008000#32).extractLsb' 24 3 = 3#3 ∧ (0x03008000#32).extractLsb' 0 16 ≠ 0#16)
      ∧ ((0x04010000#32).extractLsb' 24 3 = 4#3 ∧ (0x04010000#32).extractLsb' 16 8 ≠ 0#8)
      ∧ ((0x05013055#32).extractLsb' 24 3 = 5#3 ∧ (0x05013055#32).extractLsb' 16 8 ≠ 0#8)
      ∧ ((0x01020000#32).extractLsb' 24 3 = 1#3 ∧ (0x01020000#32).extractLsb' 16 8 ∉ m0.params.regset) := by decide

/-- Inside and outside REGSET; both answers; the mock bus stores. -/
theorem witness_RdregReturnsTheLogicalValue :
    0x7F#8 ∈ m0.params.regset ∧ 0x02#8 ∉ m0.params.regset ∧ m0.env.readAnswer 0x7F#8 = .ok 0x5530#16
      ∧ (scripted [.fail] m0).env.readAnswer 0x7F#8 = .fail := by decide

theorem witness_WrregHandsOverTheSwappedValue :
    0x1A#8 ∈ m0.params.regset ∧ 0x02#8 ∉ m0.params.regset ∧ m0.env.writeAnswer 0x1A#8 0x0116#16 = .ok
      ∧ (scripted [.fail] m0).env.writeAnswer 0x1A#8 0x0116#16 = .fail ∧ m0.env.stores = true ∧ m0.env.regs.wf
      ∧ (scripted [.ok 0#16] m0).env.stores = false := by decide

theorem witness_WrittenRegisterReadsBack :
    0x10#8 ∈ m0.params.regset ∧ m0.env.transport = .mockBus ∧ m0.env.regQ = [] ∧ m0.env.regs.wf := by decide

/-- What the write of entry `k` of the table is answered, after the writes before it. -/
def tableAnswer (s : State) (k : Nat) (x : Addr × Word16) : Ack :=
  ((s.params.initTable.take k).foldl (fun e y => e.afterWrite y.1 (swap16 y.2)) s.env).writeAnswer x.1 (swap16 x.2)

/-- M0 with the sixth register transaction failing. -/
def sixthFails : State :=
  scripted [.byTransport, .byTransport, .byTransport, .byTransport, .byTransport, .fail] m0

/-- An entry of the table is the one that `initEntry` gives. -/
theorem initEntry_of_getElem? {p : Params} {k : Nat} {x : Addr × Word16} (h : p.initTable[k]? = some x) :
    initEntry p k = x := by simp [initEntry, h]

/-- Every write answered Ok. -/
theorem witness_InitWritesTheTableInOrder_ok :
    ∀ k x, m0.params.initTable[k]? = some x → tableAnswer m0 k x = .ok := by
  intro k x h
  have hk : k ∈ List.range 6 := List.mem_range.mpr (List.getElem?_eq_some_iff.mp h).1
  have all : ∀ k ∈ List.range 6, tableAnswer m0 k (initEntry m0.params k) = .ok := by decide
  exact initEntry_of_getElem? h ▸ all k hk

/-- The last write answered Fail after five answered Ok. -/
theorem witness_InitWritesTheTableInOrder_fail :
    sixthFails.params.initTable[5]? = some (0x1A#8, 0x1601#16) ∧ tableAnswer sixthFails 5 (0x1A#8, 0x1601#16) = .fail
      ∧ ∀ j y, j < 5 → sixthFails.params.initTable[j]? = some y → tableAnswer sixthFails j y = .ok := by
  refine ⟨by decide, by decide, fun j y hj h => ?_⟩
  have all : ∀ k ∈ List.range 5, tableAnswer sixthFails k (initEntry sixthFails.params k) = .ok := by decide
  exact initEntry_of_getElem? h ▸ all j (List.mem_range.mpr hj)

theorem witness_RdchJoinsHighAndLow :
    (scripted [.fail] m0).env.readAnswer 0x00#8 = .fail
      ∧ (scripted [.ok 1#16, .fail] m0).env.readAnswer 0x00#8 = .ok 1#16
      ∧ ((scripted [.ok 1#16, .fail] m0).env.afterRead 0x00#8).readAnswer 0x01#8 = .fail
      ∧ m0.env.readAnswer 0x00#8 = .ok 0xBC3A#16 ∧ (m0.env.afterRead 0x00#8).readAnswer 0x01#8 = .ok 0x3412#16 := by
  decide

theorem witness_VeridComparesTheIdentity :
    (scripted [.fail] m0).env.readAnswer 0x7F#8 = .fail
      ∧ (m0.env.readAnswer 0x7F#8 = .ok 0x5530#16 ∧ swap16 0x5530#16 = 0x3055#16)
      ∧ ((scripted [.ok 0x1111#16] m0).env.readAnswer 0x7F#8 = .ok 0x1111#16 ∧ swap16 0x1111#16 ≠ 0x3055#16) := by decide

theorem witness_OtherChannelsAreRefused : (1#2 : BitVec 2) ≠ 0#2 ∧ (3#2 : BitVec 2) ≠ 0#2 := by decide

theorem witness_DriverOperationsWriteNoRegister :
    (Instr.rdch 0#2).drvOpCode.isSome = true ∧ paramsLegal m0.params = true
      ∧ ∃ t, exec (.rdch 0#2) m0 = .next t := ⟨by decide, by decide, _, rfl⟩

/-- `start` low; a valid offer at the largest limit; an offer one above it; no samples; one sample too many. -/
theorem witness_IdleTakesStartAndValidates :
    m0.host.start = false ∧ (offer 32667#16).start = true ∧ ConfigurationValid m0.params (offer 32667#16)
      ∧ ¬ ConfigurationValid m0.params (offer 32668#16)
      ∧ ¬ ConfigurationValid m0.params { offer 0#16 with sampleCount := 0 }
      ∧ ¬ ConfigurationValid m0.params { offer 0#16 with sampleCount := 1001 } := by decide

/-- Both answers of RunStartOpensTheBus and RunStartOpensTheSink. -/
theorem witness_RunStart :
    m0.env.openAnswer = .ok ∧ { m0.env with openQ := [.fail] }.openAnswer = .fail ∧ m0.env.sinkOpenAnswer = .ok
      ∧ { m0.env with sinkOpenQ := [.fail] }.sinkOpenAnswer = .fail := by decide

/-- The first and the last phase that write, with both answers. -/
theorem witness_StartupWritesTheTableEntry :
    (3#4 ≤ 3#4 ∧ (3#4 : Phase) ≤ 8#4 ∧ m0.params.initTable[(3#4 : Phase).toNat - 3]? = some (0x08#8, 0x04D6#16))
      ∧ (3#4 ≤ (8#4 : Phase) ∧ m0.params.initTable[(8#4 : Phase).toNat - 3]? = some (0x1A#8, 0x1601#16))
      ∧ m0.env.writeAnswer 0x1A#8 (swap16 0x1601#16) = .ok
      ∧ (scripted [.fail] m0).env.writeAnswer 0x08#8 (swap16 0x04D6#16) = .fail := by decide

theorem witness_StartupChecksTheIdentity :
    (scripted [.fail] m0).env.readAnswer m0.params.aDeviceId = .fail
      ∧ (m0.env.readAnswer m0.params.aDeviceId = .ok 0x5530#16 ∧ swap16 0x5530#16 = 0x3055#16)
      ∧ ((scripted [.ok 0#16] m0).env.readAnswer m0.params.aDeviceId = .ok 0#16 ∧ swap16 0#16 ≠ 0x3055#16) := by decide

/-- `stop_req` raised; POLLS equal to the limit; POLLS one below it, with each kind of answer. -/
theorem witness_PollStepFollowsItsPriorities :
    ({ m0.params with hasStop := true }.hasStop = true ∧ { m0.host with stopReq := true }.stopReq = true)
      ∧ (m0.params.hasStop = false ∧ ((3 : Nat) ≠ 0 ∧ (3 : Nat) ≤ 3))
      ∧ ¬ ((3 : Nat) ≠ 0 ∧ (3 : Nat) ≤ 2)
      ∧ (scripted [.fail] m0).env.readAnswer 0x18#8 = .fail
      ∧ (m0.env.readAnswer 0x18#8 = .ok 0x4000#16 ∧ swap16 0x4000#16 &&& m0.params.drdyMask ≠ 0#16)
      ∧ ((scripted [.ok 0xBFFF#16] m0).env.readAnswer 0x18#8 = .ok 0xBFFF#16
        ∧ swap16 0xBFFF#16 &&& m0.params.drdyMask = 0#16) := by decide

/-- Both answers of SamplingReadsTheHighRegister and SamplingReadsTheLowRegister, with flags clear and set. -/
theorem witness_SamplingReads :
    m0.env.readAnswer m0.params.aDataMsb = .ok 0xBC3A#16
      ∧ (scripted [.fail] m0).env.readAnswer m0.params.aDataMsb = .fail
      ∧ m0.env.readAnswer m0.params.aDataLsb = .ok 0x3412#16
      ∧ (scripted [.fail] m0).env.readAnswer m0.params.aDataLsb = .fail
      ∧ ((0x0ABC#16 : Word16) >>> 12).truncate 4 = 0#4 ∧ ((0x1ABC#16 : Word16) >>> 12).truncate 4 ≠ 0#4 := by decide

/-- The largest T0N with an answer below it, and an answer equal to T0N. -/
theorem witness_SamplingStampsTheElapsedTime :
    let s := timed [⟨6, 0⟩] (setRegs ({ · with t0n := 999999999#30 }) (pcAt 3#3 2#4))
    let u := timed [⟨5, 5⟩] (setRegs ({ · with t0n := 5#30 }) (pcAt 3#3 2#4))
    (s.regs.t0n.toNat ≤ 999999999 ∧ (s.env.timeAnswer 32).nsec.val < s.regs.t0n.toNat)
      ∧ (u.regs.t0n.toNat ≤ 999999999 ∧ u.regs.t0n.toNat ≤ (u.env.timeAnswer 32).nsec.val) := by decide

/-- Two times a nanosecond apart across a second, at the end of the range of 3 bits. -/
theorem witness_ElapsedTimeIsTrueAndMonotone :
    6 < 2 ^ 3 ∧ 7 < 2 ^ 3 ∧ (999999999#30 : Nsec).toNat ≤ 999999999 ∧ (0#30 : Nsec).toNat ≤ 999999999
      ∧ nanoseconds 6 999999999#30 ≤ nanoseconds 7 0#30 ∧ nanoseconds 7 0#30 ≤ nanoseconds 7 0#30 := by decide

/-- Both answers, and the largest nanoseconds. -/
theorem witness_SamplingEmitsTheRecord :
    m0.env.emitAnswer ⟨0#2, 0, 0#30, 0#28, 0#4⟩ = .ok
      ∧ { m0.env with emitQ := [.fail] }.emitAnswer ⟨0#2, 0, 0#30, 0#28, 0#4⟩ = .fail
      ∧ (999999999#30 : Nsec).toNat ≤ 999999999 := by decide

/-- Exhaustion at the boundary of a step; a boundary; neither. -/
theorem witness_AdvanceChoosesTheNextState :
    let r := { Regs.reset with cfgNsamp := 4, cfgAct := true, cfgStep := 2, sct := 1 }
    ((3 + 1) % 2 ^ 32 = r.cfgNsamp) ∧ ((2 + 1) % 2 ^ 32 ≠ r.cfgNsamp ∧ r.cfgAct = true ∧ (r.sct + 1) % 2 ^ 32 = r.cfgStep)
      ∧ ¬ (r.cfgAct = true ∧ (0 + 1) % 2 ^ 32 = r.cfgStep) := by decide

/-- One above the limit, at the limit, the magnitude 32768; both answers. -/
theorem witness_ActuatingTestsSendsAndIncrements :
    (150#16 : Word16).toNat < (151#16 : Word16).toInt.natAbs ∧ (0xFF6A#16 : Word16).toInt.natAbs ≤ (150#16 : Word16).toNat
      ∧ (32767#16 : Word16).toNat < (0x8000#16 : Word16).toInt.natAbs
      ∧ m0.env.sendAnswer [0#16, 0#16] = .ok 4
      ∧ { m0.env with sendQ := [.fail] }.sendAnswer [0#16, 0#16] = .fail := by decide

/-- The largest increment with the limit 0, and the two ends of the range. -/
theorem witness_CommandSumNeverOverflows :
    ((32767#16 : Word16) ≠ 0x8000#16 ∧ (0#16 : Word16).toNat + (32767#16 : Word16).toInt.natAbs ≤ 32767
        ∧ (0#16 : Word16).toInt.natAbs ≤ (0#16 : Word16).toNat)
      ∧ ((0x8001#16 : Word16) ≠ 0x8000#16 ∧ (0#16 : Word16).toNat + (0x8001#16 : Word16).toInt.natAbs ≤ 32767) := by decide

theorem witness_CommandVectorHasOneElementPerChannel : 1 < m0.params.nAct ∧ m0.params.cmdDerive = .broadcast := by decide

/-- Both answers and both values of each flag, for TerminatingClosesAndReleases and AbortedReleasesWhatIsOwned. -/
theorem witness_Teardown :
    m0.env.closeAnswer = .ok ∧ { m0.env with closeQ := [.fail] }.closeAnswer = .fail
      ∧ (owning m0).regs.actOwned = true ∧ m0.regs.actOwned = false ∧ (owning m0).regs.sinkOpen = true
      ∧ m0.regs.sinkOpen = false ∧ (owning m0).regs.busOwned = true ∧ m0.regs.busOwned = false := by decide

/-- The lowest unlisted phase of each state. -/
theorem witness_UnlistedPhasesAreStuck :
    pcListed 0#3 1#4 = false ∧ pcListed 1#3 10#4 = false ∧ pcListed 2#3 1#4 = false ∧ pcListed 3#3 4#4 = false
      ∧ pcListed 4#3 1#4 = false ∧ pcListed 5#3 3#4 = false ∧ pcListed 6#3 1#4 = false ∧ pcListed 7#3 4#4 = false := by decide

/-- A handler with no program and one outside IDLE with a program; a driver operation in IDLE, and one that returns an
IdentityMismatch; a refused one; a stuck one. -/
theorem witness_StepRunsTheDecodedInstruction :
    paramsLegal m0.params = true ∧ m0.host.rst = false
      ∧ (HandlerNext m0 ∧ decodeFsm (pcCode m0.regs.st m0.regs.ph) = .stIdle 0#4)
      ∧ (HandlerNext { pcAt 7#3 0#4 with drv := [0x06003055#32] }
        ∧ decodeFsm (pcCode 7#3 0#4) = .stAborted 0#4)
      ∧ (AtIdle m0.regs ∧ decodeDrv 0x06003055#32 = .ok (.swap16 0x3055#16))
      ∧ (∃ t, exec (.stIdle 0#4) { m0 with diag := [], drvResult := none } = .next t)
      ∧ (∃ t, exec (.swap16 0x3055#16) m0 = .next t ∧ ∀ a e v, t.drvResult ≠ some (.identityMismatch a e v))
      ∧ (∃ t, exec (.verid 0x1111#16) m0 = .next t
        ∧ t.drvResult = some (.identityMismatch 0x7F#8 0x1111#16 0x3055#16))
      ∧ exec (.stIdle 1#4) m0 = .fault (.unreachablePhase 0#3 1#4)
      ∧ exec (.rdreg 0x02#8) m0 = .refused (.addressOutsideRegset 0x02#8) :=
  ⟨by decide, rfl, by decide, by decide, ⟨by decide, rfl⟩, ⟨_, rfl⟩, ⟨_, rfl, by simp [State.returnResult]⟩,
    ⟨_, rfl, by decide⟩, rfl, rfl⟩

/-- A legal assignment, one with other widths, one whose mask has two bits, and bounds just outside their ranges. -/
theorem witness_IllegalParametersAreRefused :
    paramsLegal Config.paramsT = true ∧ paramsLegal { Config.paramsT with wCnt := 10, wSec := 3 } = true
      ∧ paramsLegal { Config.paramsT with drdyMask := 0x0041#16 } = false
      ∧ paramsLegal { Config.paramsT with nAct := 0 } = false
      ∧ paramsLegal { Config.paramsT with maxStep := 2 ^ 32 } = false
      ∧ paramsLegal { Config.paramsT with pollLimit := 2 ^ 32 } = false := by decide

theorem witness_ResetStepSetsTheControlRegisters :
    paramsLegal m0.params = true ∧ { HostIn.idle with rst := true }.rst = true := by decide

/-- M0 in a run of two samples without the actuator, at a phase of SAMPLING or at POLLING. -/
def running (st : StCode) (ph : Phase) : State :=
  setRegs ({ · with busOwned := true, sinkOpen := true, cfgNsamp := 2 }) (pcAt st ph)

theorem witness_runsHandler : RunsHandler (running 2#3 0#4) := by decide

/-- A step of the state machine with a transaction: the hypotheses of HandlerStepPerformsAtMostOneTransaction,
PerformedTransactionsStay, StepFollowsTheControlFlowGraph (with witness_runsHandler) and ParametersNeverChange. -/
theorem witness_HandlerStep :
    HandlerNext (running 2#3 0#4) ∧ HandlerNext { running 2#3 0#4 with drv := [0x021A1601#32] }
      ∧ (∃ t, step { running 2#3 0#4 with drv := [0x021A1601#32] } = .next t)
      ∧ { HostIn.idle with rst := true }.rst = true
      ∧ ∃ t, step { m0 with host := { HostIn.idle with rst := true } } = .next t :=
  ⟨by decide, by decide, ⟨_, rfl⟩, rfl, _, rfl⟩

theorem witness_NoListedStateIsStuck :
    RunsHandler (running 3#3 3#4) ∧ pcListed (running 3#3 3#4).regs.st (running 3#3 3#4).regs.ph = true := by decide

/-- The invariant holds inside a run, and the state has a step. -/
theorem witness_EveryStepKeepsTheInvariant : Inv (running 2#3 0#4) ∧ ∃ t, step (running 2#3 0#4) = .next t :=
  ⟨by constructor <;> decide, _, rfl⟩

theorem witness_EveryRunStaysInTheInvariant :
    paramsLegal m0.params = true ∧ m0.env.regs.wf
      ∧ ∃ t, Host.Core.run Sys2Proof.core 1
        { State.reset with params := m0.params, host := m0.host, hostSched := [], env := m0.env, drv := [] } = .next t :=
  ⟨by decide, by decide, _, rfl⟩

/-- An emission that fails, an invalid offer, a table write that fails, another identity. -/
theorem witness_FatalErrorEntryRecordsTheError :
    let s := running 3#3 3#4
    let emit := { s with env := { s.env with emitQ := [.fail] } }
    let offered := { m0 with host := offer 32668#16 }
    let write := scripted [.fail] (pcAt 1#3 8#4)
    let identity := scripted [.ok 0x1111#16] (pcAt 1#3 9#4)
    (RunsHandler emit ∧ emit.regs.st ≠ 7#3 ∧ (nextOf (step emit)).map (·.regs.st) = some 7#3)
      ∧ (RunsHandler offered ∧ (nextOf (step offered)).map (·.regs.st) = some 7#3)
      ∧ (RunsHandler write ∧ (nextOf (step write)).map (fun t => (t.regs.st, t.regs.eaddr)) = some (7#3, 0x1A#8))
      ∧ (RunsHandler identity ∧ (nextOf (step identity)).map (fun t => (t.regs.st, t.regs.err)) = some (7#3, 2#3)) := by
  decide

/-- With a driver program too. -/
theorem witness_ErrorRecordIsWrittenOnce :
    (pcAt 7#3 2#4).host.rst = false ∧ (pcAt 7#3 2#4).regs.st = 7#3 ∧ (nextOf (step (pcAt 7#3 2#4))).isSome = true
      ∧ (nextOf (step { pcAt 7#3 0#4 with drv := [0x021A1601#32] })).isSome = true := by decide

theorem witness_OnlyResetLeavesAFinalState :
    (RunsHandler (pcAt 6#3 0#4) ∧ Final (pcAt 6#3 0#4).regs ∧ (nextOf (step (pcAt 6#3 0#4))).isSome = true)
      ∧ (Final (pcAt 7#3 3#4).regs ∧ (nextOf (step (pcAt 7#3 3#4))).isSome = true) := by decide

/-- A step outside IDLE, and a driver operation in IDLE. -/
theorem witness_ConfigurationIsConstantDuringARun :
    ((running 2#3 0#4).regs.st ≠ 0#3 ∧ (nextOf (step (running 2#3 0#4))).isSome = true)
      ∧ (nextOf (step { m0 with drv := [0x06003055#32] })).isSome = true := by decide

theorem witness_RunWithoutActuatorNeverActuates :
    Inv (running 2#3 0#4) ∧ RunsHandler (running 2#3 0#4) ∧ (running 2#3 0#4).regs.st ≠ 0#3
      ∧ (running 2#3 0#4).regs.cfgAct = false ∧ ∃ t, step (running 2#3 0#4) = .next t :=
  ⟨by constructor <;> decide, by decide, by decide, rfl, _, rfl⟩

/-- The write of phase 8 is the one to the activation register. -/
theorem witness_ActivationRegisterIsWrittenLast :
    RunsHandler (pcAt 1#3 8#4)
      ∧ (nextOf (step (pcAt 1#3 8#4))).map (·.env.trace) = some [.busWrite 0x1A#8 0x0116#16 .ok] := by decide

/-- From phase 0 of SAMPLING the high read leads to phase 1. -/
theorem witness_LowReadFollowsTheHighRead :
    RunsHandler (running 3#3 0#4)
      ∧ (nextOf (step (running 3#3 0#4))).map (fun t => (t.regs.st, t.regs.ph)) = some (3#3, 1#4) := by decide

/-- A poll that finds data-ready leads to phase 0 of SAMPLING. -/
theorem witness_SamplingFollowsDataReady :
    RunsHandler (running 2#3 0#4)
      ∧ (nextOf (step (running 2#3 0#4))).map (fun t => (t.regs.st, t.regs.ph)) = some (3#3, 0#4) := by decide

/-- Three polls answered by the script: a failed one, one that shows nothing, one that shows every bit but data-ready;
with the stop input there and low. -/
theorem witness_WaitForDataReadyIsUnbounded_script :
    let s := { scripted [.fail, .ok 0x0000#16, .ok 0xBFFF#16] (running 2#3 0#4) with
      params := { Config.paramsT with hasStop := true } }
    (RunsHandler s ∧ s.regs.st = 2#3 ∧ s.regs.ph = 0#4 ∧ s.params.pollLimit = 0)
      ∧ (∀ h ∈ s.host :: s.hostSched, h.rst = false ∧ ¬ (s.params.hasStop = true ∧ h.stopReq = true))
      ∧ ((Env.afterRead 0x18#8)^[0] s.env).readAnswer 0x18#8 = .fail
      ∧ ((Env.afterRead 0x18#8)^[1] s.env).readAnswer 0x18#8 = .ok 0x0000#16
      ∧ ((Env.afterRead 0x18#8)^[2] s.env).readAnswer 0x18#8 = .ok 0xBFFF#16
      ∧ swap16 0x0000#16 &&& s.params.drdyMask = 0#16 ∧ swap16 0xBFFF#16 &&& s.params.drdyMask = 0#16 := by decide

/-- The mock bus whose status register holds 0, with an empty script. -/
def neverReady : State := { running 2#3 0#4 with env := { (running 2#3 0#4).env with regs := [] } }

/-- Polls answered by the transport: the mock bus whose status never shows data-ready, for any number of polls. -/
theorem witness_WaitForDataReadyIsUnbounded_transport :
    RunsHandler neverReady
      ∧ ∀ k, ((Env.afterRead 0x18#8)^[k] neverReady.env).readAnswer 0x18#8 = .ok 0x0000#16 := by
  refine ⟨by decide, fun k => ?_⟩
  have keeps : ∀ k, ((Env.afterRead 0x18#8)^[k] neverReady.env).regQ = []
      ∧ ((Env.afterRead 0x18#8)^[k] neverReady.env).transport = .mockBus
      ∧ ((Env.afterRead 0x18#8)^[k] neverReady.env).regs = [] := by
    intro k
    induction k with
    | zero => decide
    | succ k ih =>
      rw [Function.iterate_succ_apply']
      exact ⟨by simp [Env.afterRead, Env.log, ih.1], ih.2.1, ih.2.2⟩
  obtain ⟨hq, ht, hr⟩ := keeps k
  simp only [Env.readAnswer, hq, ht, hr]
  decide

/-- Two readings, one with flags and one without, and a sink that takes both. -/
theorem witness_ErrorFlagsNeverSteer :
    m0.env.emitAnswer ⟨0#2, 1, 0#30, 0#28, 0xF#4⟩ = m0.env.emitAnswer ⟨0#2, 1, 0#30, 0#28, 0#4⟩ := by decide

/-- Both final states meet the invariant. -/
theorem witness_FinalHandlersChangeNothing :
    let failed := setRegs ({ · with err := 6#3, estate := 2#3, eaddr := 0x18#8, cfgNsamp := 2 }) (pcAt 7#3 3#4)
    let done := setRegs ({ · with nit := 2, nem := 2, cfgNsamp := 2 }) (pcAt 6#3 0#4)
    (Inv done ∧ doneOutput done.regs = true) ∧ (Inv failed ∧ abortedOutput failed.regs = true) :=
  ⟨⟨by constructor <;> decide, rfl⟩, by constructor <;> decide, rfl⟩

/-- The entry of TERMINATING after two samples, and the entry of ABORTED after a poll timeout. -/
theorem witness_EveryExitReleasesTheResources :
    let done := setRegs ({ · with nit := 2, nem := 2 }) (running 5#3 0#4)
    let failed := setRegs ({ · with err := 6#3, estate := 2#3, eaddr := 0x18#8 }) (running 7#3 0#4)
    (Inv done ∧ RunsHandler done ∧ done.hostSched = [] ∧ done.env.closeAnswer = .ok)
      ∧ (Inv failed ∧ RunsHandler failed ∧ failed.hostSched = []) :=
  ⟨⟨by constructor <;> decide, by decide, rfl, rfl⟩, by constructor <;> decide, by decide, rfl⟩

end Sys2Proof.Tests
end

section
/-! PROOFS. The parameters (R12, R13): the model's Boolean test against the rules in words, and what a step refuses. -/

namespace Sys2Proof.Machine
open Sys2Proof.Safety

/-! ## The constraints on the parameters -/

/-- The mask of R13: exactly one bit is set when the word is a shifted 1. -/
theorem exactlyOneBit_iff (m : Word16) : exactlyOneBit m = true ↔ ∃ i : Fin 16, m = 1#16 <<< i.val := by
  constructor
  · intro h
    simp only [exactlyOneBit, beq_iff_eq, List.countP_eq_length_filter, List.length_eq_one_iff] at h
    obtain ⟨i, hi⟩ := h
    have hset : ∀ j < 16, (m.getLsbD j = true ↔ j = i) := fun j hj => by
      have : j ∈ (List.range 16).filter (m.getLsbD ·) ↔ j = i := by rw [hi, List.mem_singleton]
      simpa [hj] using this
    have hlt : i < 16 := by
      have : i ∈ (List.range 16).filter (m.getLsbD ·) := by rw [hi]; exact List.mem_singleton_self i
      exact List.mem_range.mp (List.mem_filter.mp this).1
    refine ⟨⟨i, hlt⟩, BitVec.eq_of_getLsbD_eq fun j hj => ?_⟩
    rw [Bool.eq_iff_iff, hset j hj]
    simp [BitVec.getLsbD_one]
    omega
  · rintro ⟨i, rfl⟩
    revert i
    decide

/-- The addresses of R13: CONFIG is written by the last of six entries and by none before it. -/
theorem configLast_iff {p : Params} (hl : p.initTable.length = 6) :
    ((initAddresses p).getLast? = some p.aConfig ∧ ∀ a ∈ (initAddresses p).take 5, a ≠ p.aConfig)
      ↔ ∀ (k : Nat) (x : Addr × Word16), p.initTable[k]? = some x → (x.1 = p.aConfig ↔ k = 5) := by
  have hlast : (initAddresses p).getLast? = some (p.initTable[5]).1 := by
    simp [initAddresses, List.getLast?_eq_getElem?, hl]
  constructor
  · rintro ⟨h5, hne⟩ k x hx
    obtain ⟨hk, rfl⟩ := List.getElem?_eq_some_iff.mp hx
    constructor
    · intro ha
      by_contra hk5
      exact hne _ (List.mem_take_iff_getElem.mpr ⟨k, by simp [initAddresses]; omega, by simp [initAddresses]⟩) ha
    · rintro rfl
      simpa [hlast] using h5
  · intro h
    refine ⟨by rw [hlast, (h 5 _ (List.getElem?_eq_getElem (by omega))).mpr rfl], fun a ha => ?_⟩
    obtain ⟨k, hk, rfl⟩ := List.mem_take_iff_getElem.mp ha
    have hk6 : k < p.initTable.length := by simp [initAddresses] at hk; omega
    have := (h k _ (List.getElem?_eq_getElem hk6))
    simp only [initAddresses, List.getElem_map]
    rw [Ne, this]
    omega

/-- The Boolean test of the model says what R12 and R13 say in words. -/
theorem paramsLegal_iff (p : Params) : paramsLegal p = true ↔ ParamsConform p := by
  have hinit : (∀ a ∈ initAddresses p, a ∈ p.regset) ↔ ∀ x ∈ p.initTable, x.1 ∈ p.regset := by
    simp only [initAddresses, List.forall_mem_map]
  simp only [paramsLegal, roleAddresses, ParamsConform, Bool.and_eq_true, decide_eq_true_eq, beq_iff_eq, bne_iff_ne,
    exactlyOneBit_iff, List.all_eq_true, List.contains_iff_mem, List.forall_mem_cons, hinit, and_assoc,
    Nat.le_sub_one_iff_lt (Nat.two_pow_pos p.wCnt), Nat.one_le_iff_ne_zero (n := p.nAct)]
  constructor
  · rintro ⟨hmsb, hlsb, hstatus, hconfig, hid, -, htable, hlen, hlast, hfirst, hrest⟩
    exact ⟨hmsb, hlsb, hstatus, hconfig, hid, htable, hlen, (configLast_iff hlen).mp ⟨hlast, hfirst⟩, hrest⟩
  · rintro ⟨hmsb, hlsb, hstatus, hconfig, hid, htable, hlen, horder, hrest⟩
    obtain ⟨hlast, hfirst⟩ := (configLast_iff hlen).mpr horder
    exact ⟨hmsb, hlsb, hstatus, hconfig, hid, by simp, htable, hlen, hlast, hfirst, hrest⟩

/-- With legal parameters the last entry of the initialization table writes CONFIG (R13). -/
theorem initEntry_five {p : Params} (h : paramsLegal p = true) : (initEntry p 5).1 = p.aConfig := by
  obtain ⟨-, -, hlen, horder, -⟩ := (paramsLegal_iff p).mp h
  have h5 : p.initTable[5]? = some (initEntry p 5) := by
    simp [initEntry, hlen]
  exact (horder 5 _ h5).mpr rfl

/-! ## Which refusals an instruction can answer -/

/-- Everything a refusal of an instruction can be: RDREG and WRREG refuse an address (R145 e), INIT and RDCH a channel
(R145 d), and nothing else refuses. -/
theorem exec_refused_cases {i : Instr} {s : State} {r : Refusal} (h : exec i s = .refused r) :
    (∃ a, r = .addressOutsideRegset a) ∨ ∃ ch, r = .channelNotZero ch := by
  cases i with
  | rdreg a | wrreg a d =>
    simp only [exec, execRdreg, execWrreg] at h
    split at h <;> cases h
    exact .inl ⟨a, rfl⟩
  | init ch | rdch ch =>
    simp only [exec, execInit, execRdch] at h
    split at h <;> cases h
    exact .inr ⟨ch, rfl⟩
  | verid d | swap16 d => cases h
  | stIdle ph | stInitializing ph | stPolling ph | stSampling ph | stActuating ph | stTerminating ph | stDone ph
  | stAborted ph =>
    simp only [exec, execStIdle, execStInitializing, execStPolling, execStSampling, execStActuating, execStTerminating,
      execStDone, execStAborted] at h
    split at h <;> cases h

/-- With legal parameters and `rst` low a step is the fetched instruction and what follows every instruction. -/
theorem step_of_fetch {s : State} {i : Instr} (hp : paramsLegal s.params = true) (hr : s.host.rst = false)
    (hf : s.fetch = .ok i) : step s = tickOutcome (exec i s.begin) := by
  simp [step, hp, hr, hf]

/-- A step refuses the parameters exactly when they break R13: no instruction refuses them. -/
theorem step_refused_illegalParameters_iff {s : State} :
    step s = .refused .illegalParameters ↔ paramsLegal s.params = false := by
  constructor
  · intro h
    by_contra hp
    rw [Bool.not_eq_false] at hp
    cases hr : s.host.rst with
    | true => simp [step, hp, hr] at h
    | false =>
      cases hf : s.fetch with
      | error why => simp [step, hp, hr, hf] at h
      | ok i =>
        rw [step_of_fetch hp hr hf] at h
        cases he : exec i s.begin with
        | next u => simp [he, tickOutcome] at h
        | fault f => simp [he, tickOutcome] at h
        | refused r =>
          rw [he, tickOutcome, Host.Outcome.refused.injEq] at h
          obtain ⟨a, rfl⟩ | ⟨ch, rfl⟩ := exec_refused_cases he <;> cases h
  · intro hp
    simp [step, hp]

end Sys2Proof.Machine
end

section
/-! PROOFS. Frames: what every handler, every driver operation and the step leave alone, and the one transaction that a
handler may perform (R18, R259). -/

namespace Sys2Proof.Machine
open Sys2Proof.Safety

/-! ## What a step of a handler leaves alone -/

/-- What every step of the handler of (ST, PH) from `s` to `t` keeps: the surroundings, the driver's result, and the
record of transactions but for at most one that R259 lists. That the entry of phase 8 of INITIALIZING writes CONFIG is a
constraint on the parameters (R13). -/
structure HandlerFrame (st : StCode) (ph : Phase) (s t : State) : Prop where
  /-- Parameters, host inputs, driver program, leaks and the kind of the environment stay. -/
  surroundings : KeepsSurroundings s t
  /-- A handler returns nothing to a caller of the driver. -/
  drvResult : t.drvResult = s.drvResult
  /-- At most one transaction, one of the table's. -/
  transaction : t.env.trace = s.env.trace
    ∨ ∃ x, t.env.trace = s.env.trace ++ [x] ∧ (paramsLegal s.params = true → transactionListed s.params st ph x)

section
variable {st : StCode} {ph : Phase} {s : State} {r : Regs} {d : List DiagEvent}

/-- A handler that changes registers and raises events alone is silent. -/
theorem HandlerFrame.silent : HandlerFrame st ph s { s with regs := r, diag := d } :=
  ⟨⟨rfl, rfl, rfl, rfl, rfl, rfl⟩, rfl, .inl rfl⟩

/-- A handler that besides performs one listed transaction. -/
theorem HandlerFrame.transacts {e : Env} {x : Txn} (htrace : e.trace = s.env.trace ++ [x])
    (htransport : e.transport = s.env.transport)
    (hx : paramsLegal s.params = true → transactionListed s.params st ph x) :
    HandlerFrame st ph s { s with regs := r, env := e, diag := d } :=
  ⟨⟨rfl, rfl, rfl, rfl, rfl, htransport⟩, rfl, .inr ⟨x, htrace, hx⟩⟩

end

/-! ### IDLE and INITIALIZING -/

theorem idleStep_frame (s : State) : HandlerFrame 0#3 0#4 s (idleStep s) := by
  unfold idleStep
  split_ifs <;> exact .silent

theorem initCaptureTime_frame (s : State) : HandlerFrame 1#3 0#4 s (initCaptureTime s) :=
  .transacts rfl rfl fun _ => .inl rfl

theorem initOpenBus_frame (s : State) : HandlerFrame 1#3 1#4 s (initOpenBus s) := by
  unfold initOpenBus
  dsimp only
  split <;> exact .transacts rfl rfl fun _ => rfl

theorem initOpenSink_frame (s : State) : HandlerFrame 1#3 2#4 s (initOpenSink s) := by
  unfold initOpenSink
  dsimp only
  split <;> exact .transacts rfl rfl fun _ => rfl

/-- Phases 3 to 8 write the table, and phase 8, the last entry, writes CONFIG (R206). -/
theorem initWriteStep_frame {ph : Phase} (hlo : 3#4 ≤ ph) (hhi : ph ≤ 8#4) (s : State) :
    HandlerFrame 1#3 ph s (initWriteStep ph s) := by
  have hlisted (ans : Ack) : paramsLegal s.params = true → transactionListed s.params 1#3 ph
      (.busWrite (initEntry s.params (ph.toNat - 3)).1 (swap16 (initEntry s.params (ph.toNat - 3)).2) ans) :=
    fun hp => ⟨rfl, hlo, hhi, by rintro rfl; exact initEntry_five hp⟩
  unfold initWriteStep
  dsimp only
  split <;> exact .transacts rfl rfl (hlisted _)

theorem initCheckIdentity_frame (s : State) : HandlerFrame 1#3 9#4 s (initCheckIdentity s) := by
  have hlisted (ans : RegAnswer) : paramsLegal s.params = true →
      transactionListed s.params 1#3 9#4 (.busRead s.params.aDeviceId ans) := fun _ => .inl ⟨rfl, rfl⟩
  unfold initCheckIdentity
  dsimp only
  split
  · split_ifs <;> exact .transacts rfl rfl (hlisted _)
  · exact .transacts rfl rfl (hlisted _)

/-! ### POLLING, SAMPLING and ACTUATING -/

theorem pollRead_frame (s : State) : HandlerFrame 2#3 0#4 s (pollRead s) := by
  have hlisted (ans : RegAnswer) : paramsLegal s.params = true →
      transactionListed s.params 2#3 0#4 (.busRead s.params.aStatus ans) := fun _ => .inr (.inl ⟨rfl, rfl⟩)
  unfold pollRead
  dsimp only
  split
  · exact .transacts rfl rfl (hlisted _)
  · split_ifs <;> exact .transacts rfl rfl (hlisted _)

theorem pollStep_frame (s : State) : HandlerFrame 2#3 0#4 s (pollStep s) := by
  unfold pollStep
  split_ifs
  · exact .silent
  · exact .silent
  · exact pollRead_frame s

theorem sampleHigh_frame (s : State) : HandlerFrame 3#3 0#4 s (sampleHigh s) := by
  unfold sampleHigh
  dsimp only
  split <;> exact .transacts rfl rfl fun _ => .inr (.inr (.inl ⟨rfl, rfl⟩))

theorem sampleLow_frame (s : State) : HandlerFrame 3#3 1#4 s (sampleLow s) := by
  unfold sampleLow
  dsimp only
  split <;> exact .transacts rfl rfl fun _ => .inr (.inr (.inr ⟨rfl, rfl⟩))

theorem sampleTime_frame (s : State) : HandlerFrame 3#3 2#4 s (sampleTime s) :=
  .transacts rfl rfl fun _ => .inr rfl

theorem sampleEmit_frame (s : State) : HandlerFrame 3#3 3#4 s (sampleEmit s) := by
  unfold sampleEmit
  dsimp only
  split <;> exact .transacts rfl rfl fun _ => rfl

/-- A command over its limit is not sent; one within it is the one transaction (R241). -/
theorem actuateStep_frame (s : State) : HandlerFrame 4#3 0#4 s (actuateStep s) := by
  unfold actuateStep
  dsimp only
  split_ifs
  · exact .silent
  · split <;> exact .transacts rfl rfl fun _ => rfl

/-! ### TERMINATING and ABORTED -/

theorem terminateClose_frame (s : State) : HandlerFrame 5#3 0#4 s (terminateClose s) := by
  unfold terminateClose
  dsimp only
  split <;> exact .transacts rfl rfl fun _ => .inl rfl

theorem terminateActuator_frame (s : State) : HandlerFrame 5#3 1#4 s (terminateActuator s) := by
  unfold terminateActuator
  obtain ⟨-, h⟩ | ⟨-, h⟩ := releaseActuator_cases s <;> rw [h]
  · exact .transacts rfl rfl fun _ => .inl rfl
  · exact .silent

theorem terminateBus_frame (s : State) : HandlerFrame 5#3 2#4 s (terminateBus s) :=
  .transacts rfl rfl fun _ => .inl rfl

theorem abortClose_frame (s : State) : HandlerFrame 7#3 0#4 s (abortClose s) := by
  unfold abortClose
  split_ifs
  · exact .transacts rfl rfl fun _ => .inr rfl
  · exact .silent

theorem abortActuator_frame (s : State) : HandlerFrame 7#3 1#4 s (abortActuator s) := by
  unfold abortActuator
  obtain ⟨-, h⟩ | ⟨-, h⟩ := releaseActuator_cases s <;> rw [h]
  · exact .transacts rfl rfl fun _ => .inr rfl
  · exact .silent

theorem abortBus_frame (s : State) : HandlerFrame 7#3 2#4 s (abortBus s) := by
  unfold abortBus
  split_ifs
  · exact .transacts rfl rfl fun _ => .inr rfl
  · exact .silent

/-! ### The handlers -/

section
variable {ph : Phase} {s u : State}

theorem execStIdle_frame (h : execStIdle ph s = .next u) : HandlerFrame 0#3 ph s u := by
  unfold execStIdle at h
  split at h <;> cases h
  subst ph
  exact idleStep_frame s

theorem execStInitializing_frame (h : execStInitializing ph s = .next u) : HandlerFrame 1#3 ph s u := by
  unfold execStInitializing at h
  split at h <;> cases h
  case h_1 hph => exact BitVec.eq_of_toNat_eq (y := 0#4) hph ▸ initCaptureTime_frame s
  case h_2 hph => exact BitVec.eq_of_toNat_eq (y := 1#4) hph ▸ initOpenBus_frame s
  case h_3 hph => exact BitVec.eq_of_toNat_eq (y := 2#4) hph ▸ initOpenSink_frame s
  case h_10 hph => exact BitVec.eq_of_toNat_eq (y := 9#4) hph ▸ initCheckIdentity_frame s
  all_goals exact initWriteStep_frame (by bv_omega) (by bv_omega) s

theorem execStPolling_frame (h : execStPolling ph s = .next u) : HandlerFrame 2#3 ph s u := by
  unfold execStPolling at h
  split at h <;> cases h
  subst ph
  exact pollStep_frame s

theorem execStSampling_frame (h : execStSampling ph s = .next u) : HandlerFrame 3#3 ph s u := by
  unfold execStSampling at h
  split at h <;> cases h
  case h_1 hph => exact BitVec.eq_of_toNat_eq (y := 0#4) hph ▸ sampleHigh_frame s
  case h_2 hph => exact BitVec.eq_of_toNat_eq (y := 1#4) hph ▸ sampleLow_frame s
  case h_3 hph => exact BitVec.eq_of_toNat_eq (y := 2#4) hph ▸ sampleTime_frame s
  case h_4 hph => exact BitVec.eq_of_toNat_eq (y := 3#4) hph ▸ sampleEmit_frame s

theorem execStActuating_frame (h : execStActuating ph s = .next u) : HandlerFrame 4#3 ph s u := by
  unfold execStActuating at h
  split at h <;> cases h
  subst ph
  exact actuateStep_frame s

theorem execStTerminating_frame (h : execStTerminating ph s = .next u) : HandlerFrame 5#3 ph s u := by
  unfold execStTerminating at h
  split at h <;> cases h
  case h_1 hph => exact BitVec.eq_of_toNat_eq (y := 0#4) hph ▸ terminateClose_frame s
  case h_2 hph => exact BitVec.eq_of_toNat_eq (y := 1#4) hph ▸ terminateActuator_frame s
  case h_3 hph => exact BitVec.eq_of_toNat_eq (y := 2#4) hph ▸ terminateBus_frame s

theorem execStDone_frame (h : execStDone ph s = .next u) : HandlerFrame 6#3 ph s u := by
  unfold execStDone at h
  split at h <;> cases h
  exact .silent

theorem execStAborted_frame (h : execStAborted ph s = .next u) : HandlerFrame 7#3 ph s u := by
  unfold execStAborted at h
  split at h <;> cases h
  case h_1 hph => exact BitVec.eq_of_toNat_eq (y := 0#4) hph ▸ abortClose_frame s
  case h_2 hph => exact BitVec.eq_of_toNat_eq (y := 1#4) hph ▸ abortActuator_frame s
  case h_3 hph => exact BitVec.eq_of_toNat_eq (y := 2#4) hph ▸ abortBus_frame s
  case h_4 => exact .silent

/-- The handler that (ST, PH) selects keeps the frame of (ST, PH) (R141, R144). -/
theorem exec_handler_frame {st : StCode} (h : exec (decodeFsm (pcCode st ph)) s = .next u) :
    HandlerFrame st ph s u := by
  rw [decodeFsm_pcCode] at h
  split at h
  case h_1 hst => exact BitVec.eq_of_toNat_eq (y := 0#3) hst ▸ execStIdle_frame h
  case h_2 hst => exact BitVec.eq_of_toNat_eq (y := 1#3) hst ▸ execStInitializing_frame h
  case h_3 hst => exact BitVec.eq_of_toNat_eq (y := 2#3) hst ▸ execStPolling_frame h
  case h_4 hst => exact BitVec.eq_of_toNat_eq (y := 3#3) hst ▸ execStSampling_frame h
  case h_5 hst => exact BitVec.eq_of_toNat_eq (y := 4#3) hst ▸ execStActuating_frame h
  case h_6 hst => exact BitVec.eq_of_toNat_eq (y := 5#3) hst ▸ execStTerminating_frame h
  case h_7 hst => exact BitVec.eq_of_toNat_eq (y := 6#3) hst ▸ execStDone_frame h
  case h_8 =>
    simp only [imp_false] at *
    obtain rfl : st = 7#3 := by bv_omega
    exact execStAborted_frame h

end

/-! ## What a driver operation leaves alone -/

theorem driverRead_keepsSurroundings (a : Addr) (s : State) : KeepsSurroundings s (driverRead a s) := by
  unfold driverRead
  split <;> exact ⟨rfl, rfl, rfl, rfl, rfl, rfl⟩

theorem driverWrite_keepsSurroundings (a : Addr) (d : Word16) (s : State) :
    KeepsSurroundings s (driverWrite a d s) := by
  unfold driverWrite
  split <;> exact ⟨rfl, rfl, rfl, rfl, rfl, rfl⟩

theorem driverInit_keepsSurroundings (tbl : List (Addr × Word16)) (k : Nat) (s : State) :
    KeepsSurroundings s (driverInit tbl k s) := by
  obtain ⟨-, hparams, hhost, hsched, hdrv, -, hleak, htransport, -⟩ := driverInit_cases tbl k s
  exact ⟨hparams, hhost, hsched, hdrv, hleak, htransport⟩

theorem driverReadChannel_keepsSurroundings (s : State) : KeepsSurroundings s (driverReadChannel s) := by
  unfold driverReadChannel
  split
  · unfold driverReadLow
    split <;> exact ⟨rfl, rfl, rfl, rfl, rfl, rfl⟩
  · exact ⟨rfl, rfl, rfl, rfl, rfl, rfl⟩

theorem driverVerify_keepsSurroundings (d : Word16) (s : State) : KeepsSurroundings s (driverVerify d s) := by
  unfold driverVerify
  split <;> exact ⟨rfl, rfl, rfl, rfl, rfl, rfl⟩

/-! ## Every instruction, and the step -/

/-- No instruction touches the surroundings, whichever of the fourteen it is. -/
theorem exec_keepsSurroundings {i : Instr} {s u : State} (h : exec i s = .next u) : KeepsSurroundings s u := by
  cases i with
  | rdreg a =>
    simp only [exec, execRdreg] at h
    split at h <;> cases h
    exact driverRead_keepsSurroundings a s
  | wrreg a d =>
    simp only [exec, execWrreg] at h
    split at h <;> cases h
    exact driverWrite_keepsSurroundings a d s
  | init ch =>
    simp only [exec, execInit] at h
    split at h <;> cases h
    exact driverInit_keepsSurroundings _ 0 s
  | rdch ch =>
    simp only [exec, execRdch] at h
    split at h <;> cases h
    exact driverReadChannel_keepsSurroundings s
  | verid d =>
    cases h
    exact driverVerify_keepsSurroundings d s
  | swap16 d =>
    cases h
    exact ⟨rfl, rfl, rfl, rfl, rfl, rfl⟩
  | stIdle ph => exact (execStIdle_frame h).surroundings
  | stInitializing ph => exact (execStInitializing_frame h).surroundings
  | stPolling ph => exact (execStPolling_frame h).surroundings
  | stSampling ph => exact (execStSampling_frame h).surroundings
  | stActuating ph => exact (execStActuating_frame h).surroundings
  | stTerminating ph => exact (execStTerminating_frame h).surroundings
  | stDone ph => exact (execStDone_frame h).surroundings
  | stAborted ph => exact (execStAborted_frame h).surroundings

/-- Before a handler no word of the driver program is taken; the one-step outputs go. -/
theorem State.begin_of_handler {s : State} (hn : HandlerNext s) :
    s.begin = { s with diag := [], drvResult := none } := by
  obtain hd | hi := hn
  · simp [State.begin, hd]
  · simp [State.begin, mt State.inIdle_iff.mp hi]

/-- Before a driver operation its word is taken from the program. -/
theorem State.begin_of_program {s : State} {w : DrvWord} {rest : List DrvWord} (hidle : AtIdle s.regs)
    (hd : s.drv = w :: rest) : s.begin = { s with drv := rest, diag := [], drvResult := none } := by
  simp [State.begin, State.inIdle_iff.mpr hidle, hd]

/-- With `rst` high the only step is the reset step (R310). -/
theorem step_of_rst {s t : State} (hr : s.host.rst = true) (h : step s = .next t) :
    t = (resetStep { s with diag := [], drvResult := none }).tick := by
  obtain ⟨-, ⟨-, ht⟩ | ⟨hr', -⟩⟩ := step_cases h
  · exact ht
  · rw [hr] at hr'
    cases hr'

/-- Everything a step with `rst` low does when the next instruction is the state machine's: the handler of (ST, PH) runs
from `s.begin` in its frame, then the host's next levels stand on the port. -/
theorem step_of_handler {s t : State} (hn : HandlerNext s) (hr : s.host.rst = false) (h : step s = .next t) :
    ∃ u, exec (decodeFsm (pcCode s.regs.st s.regs.ph)) s.begin = .next u
      ∧ HandlerFrame s.regs.st s.regs.ph s.begin u ∧ t = u.settle.tick := by
  obtain ⟨-, ⟨hr', -⟩ | ⟨-, i, u, hf, he, ht⟩⟩ := step_cases h
  · rw [hr] at hr'
    cases hr'
  · rw [State.fetch_of_handler hn] at hf
    cases hf
    exact ⟨u, he, exec_handler_frame he, ht⟩

end Sys2Proof.Machine
end

section
/-! PROOFS. The invariant at a reset, and the statements of 00_scope.md. -/

namespace Sys2Proof.Machine
open Sys2Proof.Safety

/-! ## The invariant at a reset -/

/-- With legal parameters and a canonical memory, control registers at their reset values (R50) meet the invariant,
whatever the data registers of R51 hold, as long as the seconds fit in W_SEC bits. -/
theorem inv_of_controlReset {s : State} (hlegal : paramsLegal s.params = true) (hmemory : s.env.regs.wf)
    (hreset : ControlReset s.regs) (ht0s : s.regs.t0s < 2 ^ s.params.wSec) (htss : s.regs.tss < 2 ^ s.params.wSec) :
    Inv s := by
  obtain ⟨hst, hph, herr, hestate, heph, headdr, heexp, heact, hbus, hsink, hact, hnit, hnem, hnsk, hsct, hpolls, hefs,
    hcmd, hch, hnsamp, hstep, hinc, hlim, hcfgAct⟩ := hreset
  exact {
    legal := hlegal
    listed := by rw [hst, hph]; rfl
    memory := hmemory
    errorRecord := by simp [ErrorRecordOk, hst, herr, hestate, heph, headdr, heexp, heact]
    ownership := by simp [OwnershipOk, hst, hbus, hsink, hact]
    counters := by simp [CountersOk, hst, hnit, hnem, hnsk, hsct, hpolls, hefs, hnsamp, hcfgAct]
    widths := by simp [WidthsOk, hnit, hnem, hnsk, hsct, hpolls, hnsamp, hstep, ht0s, htss]
    config := by simp [ConfigOk, hst, hcmd, hch, hnsamp, hstep, hinc, hlim, hcfgAct]
    times := by simp [TimesOk, hst]
    reading := by simp [ReadingOk, hst] }

/-! ## The statements of 00_scope.md -/

/-- Settles O38: the instruction runs from `s.begin`, and the program that is left is `programAfter`. -/
theorem stepRunsTheDecodedInstruction : Obligations.StepRunsTheDecodedInstruction := by
  intro s i hp hr rest hcode s'
  obtain ⟨hf, hbegin⟩ : s.fetch = .ok i ∧ s.begin = s' := by
    obtain ⟨hn, rfl, rfl⟩ | ⟨hidle, w, hdrv, hw⟩ := hcode
    · exact ⟨State.fetch_of_handler hn, State.begin_of_handler hn⟩
    · exact ⟨(State.fetch_of_program hidle.1 hidle.2 hdrv).trans hw, State.begin_of_program hidle hdrv⟩
  rw [step_of_fetch hp hr hf, hbegin]
  refine ⟨fun t ht => ?_, fun f hf => by rw [hf, tickOutcome], fun r hr => by rw [hr, tickOutcome]⟩
  obtain ⟨-, -, -, hdrv, -⟩ := exec_keepsSurroundings ht
  have hrest : t.drv = rest := hdrv
  refine ⟨programAfter t.drvResult rest, by rw [ht, tickOutcome, ← hrest]; rfl, ?_⟩
  obtain ⟨⟨a, e, v, hmismatch⟩, hleft⟩ | ⟨hother, hleft⟩ := programAfter_cases t.drvResult rest
  · exact ⟨fun _ _ _ _ => hleft, fun hnone => absurd hmismatch (hnone a e v)⟩
  · exact ⟨fun a e v hmismatch => absurd hmismatch (hother a e v), fun _ => hleft⟩

/-- Settles O39, by the agreement of the model's test with R12 and R13. -/
theorem illegalParametersAreRefused : Obligations.IllegalParametersAreRefused := by
  intro s
  rw [step_refused_illegalParameters_iff, ← paramsLegal_iff, Bool.not_eq_true]

/-- Settles O42, by the frame of the handler of (ST, PH); a reset step is silent by itself. -/
theorem handlerStepPerformsAtMostOneTransaction : Obligations.HandlerStepPerformsAtMostOneTransaction := by
  intro s t hnext h
  cases hr : s.host.rst with
  | true =>
    rw [step_of_rst hr h]
    exact ⟨rfl, .inl rfl⟩
  | false =>
    have hn : HandlerNext s := hnext.resolve_right (by simp [hr])
    obtain ⟨hp, -⟩ := step_cases h
    obtain ⟨u, -, hframe, rfl⟩ := step_of_handler hn hr h
    obtain ⟨-, -, -, hdrv, -⟩ := hframe.surroundings
    have hnone : u.drvResult = none := hframe.drvResult
    have hprogram : s.begin.drv = s.drv := by rw [State.begin_of_handler hn]
    refine ⟨by rw [State.tick_drv, State.settle_drv, hnone, programAfter_none, hdrv, hprogram],
      hframe.transaction.imp id ?_⟩
    rintro ⟨x, htrace, hlisted⟩
    exact ⟨rfl, x, htrace, hlisted hp⟩

/-- Settles O53: the reset step keeps the parameters, and so does every instruction. -/
theorem parametersNeverChange : Obligations.ParametersNeverChange := by
  intro s t h
  obtain ⟨-, ⟨-, rfl⟩ | ⟨-, i, u, -, he, rfl⟩⟩ := step_cases h
  · rfl
  · obtain ⟨hparams, -⟩ := exec_keepsSurroundings he
    exact hparams

/-- Settles O47: the registers of State.reset are those of R50, its seconds 0 and its memory empty. -/
theorem resetHasTheInvariant : Obligations.ResetHasTheInvariant :=
  inv_of_controlReset (by decide) Memory.wf_nil (by decide) (Nat.two_pow_pos _) (Nat.two_pow_pos _)

end Sys2Proof.Machine
end

section
/-! PROOFS. What a step does to the registers, said once as a relation between a state and the registers after it: one
constructor for each edge of the table of R259. The invariant and the constancy of the configuration are case analyses of
this relation. -/

namespace Sys2Proof.Machine
open Sys2Proof.Safety

/-! ## The edges of the control-flow graph -/

/-- The registers that a step of a handler may leave, by the edge of R259 that it takes. -/
inductive RegsStep (s : State) : Regs → Prop where
  /-- R200, R253, R258: IDLE without `start` and the two final states wait. -/
  | waited : AtIdle s.regs ∨ Final s.regs → RegsStep s s.regs
  /-- R200, R201: a valid configuration is latched and the run starts. -/
  | started : AtIdle s.regs → configValid s.params (offered s.params s.host) = true →
      RegsStep s (runStart (latchConfig s)).regs
  /-- R200: an invalid configuration is latched and the run aborted. -/
  | rejected : AtIdle s.regs → RegsStep s (abortPlain .configValidationError 0#3 0#4 (latchConfig s)).regs
  /-- R203: the time of run start. -/
  | timeCaptured (t : Instant) : s.regs.st = 1#3 → s.regs.ph = 0#4 → t.sec < 2 ^ s.params.wSec →
      RegsStep s { s.regs with t0s := t.sec, t0n := nsecWord t.nsec, st := 1#3, ph := 1#4 }
  /-- R204. -/
  | busOpened : s.regs.st = 1#3 → s.regs.ph = 1#4 → RegsStep s { s.regs with busOwned := true, st := 1#3, ph := 2#4 }
  /-- R205. -/
  | sinkOpened : s.regs.st = 1#3 → s.regs.ph = 2#4 → RegsStep s { s.regs with sinkOpen := true, st := 1#3, ph := 3#4 }
  /-- R206: phases 3 to 8 go on to the next phase. -/
  | entryWritten : s.regs.st = 1#3 → 3#4 ≤ s.regs.ph → s.regs.ph ≤ 8#4 →
      RegsStep s { s.regs with st := 1#3, ph := s.regs.ph + 1 }
  /-- R207. -/
  | identified : s.regs.st = 1#3 → s.regs.ph = 9#4 → RegsStep s { s.regs with st := 2#3, ph := 0#4 }
  /-- R280: a fatal error in INITIALIZING, POLLING, SAMPLING or ACTUATING; none raises code 3 (R264). -/
  | aborted {e : RunError} {st : StCode} {ph : Phase} {a : Addr} {x v : Word16} :
      s.regs.st ∈ [1#3, 2#3, 3#3, 4#3] → e ≠ .initializationOrderViolation →
      RegsStep s (abort e st ph a x v 0#4 s).regs
  /-- R212, R241: the stop request, and the command above its limit. -/
  | stopped : s.regs.st = 2#3 ∨ s.regs.st = 4#3 → s.regs.ph = 0#4 →
      RegsStep s { s.regs with st := 5#3, ph := 0#4 }
  /-- R211, R213: a poll without data-ready, below the poll limit. -/
  | polled (v : Word16) : s.regs.st = 2#3 → s.regs.ph = 0#4 →
      (s.params.pollLimit ≠ 0 → s.regs.polls < s.params.pollLimit) →
      RegsStep s { s.regs with stat := v, polls := satSucc s.params.wCnt s.regs.polls }
  /-- R211: a poll with data-ready. -/
  | ready (v : Word16) : s.regs.st = 2#3 → s.regs.ph = 0#4 →
      RegsStep s { s.regs with stat := v, polls := 0, st := 3#3, ph := 0#4 }
  /-- R221. -/
  | highRead (h : Word16) : s.regs.st = 3#3 → s.regs.ph = 0#4 →
      RegsStep s { s.regs with hi := h, st := 3#3, ph := 1#4 }
  /-- R222. -/
  | lowRead (l : Word16) : s.regs.st = 3#3 → s.regs.ph = 1#4 →
      RegsStep s { s.regs with
        lo := l, ef := errorFlags s.regs.hi, mag := assembleMag s.regs.hi l,
        efs := stickyFlags s.regs.efs (errorFlags s.regs.hi), st := 3#3, ph := 2#4 }
  /-- R223: the elapsed time since run start. -/
  | stamped (t : Instant) : s.regs.st = 3#3 → s.regs.ph = 2#4 →
      RegsStep s { s.regs with
        tss := (elapsed s.params.wSec s.regs.t0s t.sec s.regs.t0n (nsecWord t.nsec)).1
        tsn := (elapsed s.params.wSec s.regs.t0s t.sec s.regs.t0n (nsecWord t.nsec)).2
        st := 3#3, ph := 3#4 }
  /-- R226: a failed read is counted as skipped and ends the iteration. -/
  | skipped : s.regs.st = 3#3 → s.regs.ph = 0#4 ∨ s.regs.ph = 1#4 →
      RegsStep s (advanceRegs s.params.wCnt { s.regs with nsk := succCnt s.params.wCnt s.regs.nsk })
  /-- R224: an emitted sample is counted and ends the iteration. -/
  | emitted : s.regs.st = 3#3 → s.regs.ph = 3#4 →
      RegsStep s (advanceRegs s.params.wCnt { s.regs with nem := succCnt s.params.wCnt s.regs.nem })
  /-- R241: a command within its limit is sent and incremented. -/
  | sent : s.regs.st = 4#3 → s.regs.ph = 0#4 → exceedsLimit s.regs.cmd s.regs.cfgLim = false →
      RegsStep s { s.regs with cmd := cmdNext s.regs.cmd s.regs.cfgInc, st := 2#3, ph := 0#4 }
  /-- R250. -/
  | closed : s.regs.st = 5#3 → s.regs.ph = 0#4 → RegsStep s { s.regs with sinkOpen := false, st := 5#3, ph := 1#4 }
  /-- R250: the sink is closed all the same when its close fails, and ABORTED is entered at phase 1. -/
  | closeFailed : s.regs.st = 5#3 → s.regs.ph = 0#4 →
      RegsStep s { (abort .sinkWriteFailure 5#3 0#4 0#8 0#16 0#16 1#4 s).regs with sinkOpen := false }
  /-- R251. -/
  | actuatorReleased : s.regs.st = 5#3 → s.regs.ph = 1#4 →
      RegsStep s { s.regs with actOwned := false, st := 5#3, ph := 2#4 }
  /-- R252. -/
  | busReleased : s.regs.st = 5#3 → s.regs.ph = 2#4 → RegsStep s { s.regs with busOwned := false, st := 6#3, ph := 0#4 }
  /-- R255. -/
  | abortClosed : s.regs.st = 7#3 → s.regs.ph = 0#4 →
      RegsStep s { s.regs with sinkOpen := false, st := 7#3, ph := 1#4 }
  /-- R256. -/
  | abortActuatorReleased : s.regs.st = 7#3 → s.regs.ph = 1#4 →
      RegsStep s { s.regs with actOwned := false, st := 7#3, ph := 2#4 }
  /-- R257. -/
  | abortBusReleased : s.regs.st = 7#3 → s.regs.ph = 2#4 →
      RegsStep s { s.regs with busOwned := false, st := 7#3, ph := 3#4 }

/-- The effect of a handler that the invariant speaks of: an edge of R259 on the registers, and a device register memory
that stays canonical. -/
structure HandlerEffect (s u : State) : Prop where
  /-- The edge. -/
  edge : RegsStep s u.regs
  /-- The memory. -/
  memory : s.env.regs.wf → u.env.regs.wf

/-! ## The edges that each handler takes -/

section
variable {s u : State}

/-! ### IDLE and INITIALIZING -/

theorem idleStep_effect (hidle : AtIdle s.regs) : HandlerEffect s (idleStep s) := by
  unfold idleStep
  split_ifs with hstart hvalid
  · exact ⟨.started hidle hvalid, id⟩
  · exact ⟨.rejected hidle, id⟩
  · exact ⟨.waited (.inl hidle), id⟩

theorem initCaptureTime_effect (hst : s.regs.st = 1#3) (hph : s.regs.ph = 0#4) :
    HandlerEffect s (initCaptureTime s) :=
  ⟨.timeCaptured (s.env.timeAnswer s.params.wSec) hst hph (s.env.timeAnswer_sec_lt _), id⟩

theorem initOpenBus_effect (hst : s.regs.st = 1#3) (hph : s.regs.ph = 1#4) : HandlerEffect s (initOpenBus s) := by
  unfold initOpenBus
  dsimp only
  split
  · exact ⟨.busOpened hst hph, id⟩
  · exact ⟨.aborted (by simp [hst]) nofun, id⟩

theorem initOpenSink_effect (hst : s.regs.st = 1#3) (hph : s.regs.ph = 2#4) : HandlerEffect s (initOpenSink s) := by
  unfold initOpenSink
  dsimp only
  split
  · exact ⟨.sinkOpened hst hph, id⟩
  · exact ⟨.aborted (by simp [hst]) nofun, id⟩

/-- The one handler that writes the device's registers. -/
theorem initWriteStep_effect (hst : s.regs.st = 1#3) (hlo : 3#4 ≤ s.regs.ph) (hhi : s.regs.ph ≤ 8#4) :
    HandlerEffect s (initWriteStep s.regs.ph s) := by
  unfold initWriteStep
  dsimp only
  split
  · exact ⟨.entryWritten hst hlo hhi, fun h => Env.wf_regsAfterWrite h _ _⟩
  · exact ⟨.aborted (by simp [hst]) nofun, fun h => Env.wf_regsAfterWrite h _ _⟩

theorem initCheckIdentity_effect (hst : s.regs.st = 1#3) (hph : s.regs.ph = 9#4) :
    HandlerEffect s (initCheckIdentity s) := by
  unfold initCheckIdentity
  dsimp only
  split
  · split_ifs
    · exact ⟨.identified hst hph, id⟩
    · exact ⟨.aborted (by simp [hst]) nofun, id⟩
  · exact ⟨.aborted (by simp [hst]) nofun, id⟩

/-! ### POLLING, SAMPLING and ACTUATING -/

/-- The status read, once the poll limit has been found not to be reached. -/
theorem pollRead_effect (hst : s.regs.st = 2#3) (hph : s.regs.ph = 0#4)
    (hlimit : s.params.pollLimit ≠ 0 → s.regs.polls < s.params.pollLimit) : HandlerEffect s (pollRead s) := by
  unfold pollRead
  dsimp only
  split
  · exact ⟨.polled s.regs.stat hst hph hlimit, id⟩
  · split_ifs
    · exact ⟨.ready _ hst hph, id⟩
    · exact ⟨.polled _ hst hph hlimit, id⟩

theorem pollStep_effect (hst : s.regs.st = 2#3) (hph : s.regs.ph = 0#4) : HandlerEffect s (pollStep s) := by
  unfold pollStep
  split_ifs with hstop hlimit
  · exact ⟨.stopped (.inl hst) hph, id⟩
  · exact ⟨.aborted (by simp [hst]) nofun, id⟩
  · exact pollRead_effect hst hph (by omega)

theorem sampleHigh_effect (hst : s.regs.st = 3#3) (hph : s.regs.ph = 0#4) : HandlerEffect s (sampleHigh s) := by
  unfold sampleHigh
  dsimp only
  split
  · exact ⟨.highRead _ hst hph, id⟩
  · exact ⟨.skipped hst (.inl hph), id⟩

theorem sampleLow_effect (hst : s.regs.st = 3#3) (hph : s.regs.ph = 1#4) : HandlerEffect s (sampleLow s) := by
  unfold sampleLow
  dsimp only
  split
  · exact ⟨.lowRead _ hst hph, id⟩
  · exact ⟨.skipped hst (.inr hph), id⟩

theorem sampleTime_effect (hst : s.regs.st = 3#3) (hph : s.regs.ph = 2#4) : HandlerEffect s (sampleTime s) :=
  ⟨.stamped (s.env.timeAnswer s.params.wSec) hst hph, id⟩

theorem sampleEmit_effect (hst : s.regs.st = 3#3) (hph : s.regs.ph = 3#4) : HandlerEffect s (sampleEmit s) := by
  unfold sampleEmit
  dsimp only
  split
  · exact ⟨.emitted hst hph, id⟩
  · exact ⟨.aborted (by simp [hst]) nofun, id⟩

theorem actuateStep_effect (hst : s.regs.st = 4#3) (hph : s.regs.ph = 0#4) : HandlerEffect s (actuateStep s) := by
  unfold actuateStep
  dsimp only
  split_ifs with hlimit
  · exact ⟨.stopped (.inr hst) hph, id⟩
  · split
    · exact ⟨.sent hst hph (by simpa using hlimit), id⟩
    · exact ⟨.aborted (by simp [hst]) nofun, id⟩

/-! ### TERMINATING and ABORTED -/

/-- Whether the actuator was owned or not, it is not owned after its release. -/
theorem releaseActuator_regs (s : State) : (releaseActuator s).regs = { s.regs with actOwned := false } := by
  obtain ⟨-, h⟩ | ⟨hact, h⟩ := releaseActuator_cases s <;> rw [h]
  rw [← hact]

theorem releaseActuator_memory (s : State) : (releaseActuator s).env.regs = s.env.regs := by
  obtain ⟨-, h⟩ | ⟨-, h⟩ := releaseActuator_cases s <;> rw [h]
  rfl

theorem terminateClose_effect (hst : s.regs.st = 5#3) (hph : s.regs.ph = 0#4) :
    HandlerEffect s (terminateClose s) := by
  unfold terminateClose
  dsimp only
  split
  · exact ⟨.closed hst hph, id⟩
  · exact ⟨.closeFailed hst hph, id⟩

theorem terminateActuator_effect (hst : s.regs.st = 5#3) (hph : s.regs.ph = 1#4) :
    HandlerEffect s (terminateActuator s) where
  edge := by
    rw [terminateActuator, State.goto, releaseActuator_regs]
    exact .actuatorReleased hst hph
  memory := by
    rw [terminateActuator, State.goto_env, releaseActuator_memory]
    exact id

theorem terminateBus_effect (hst : s.regs.st = 5#3) (hph : s.regs.ph = 2#4) : HandlerEffect s (terminateBus s) :=
  ⟨.busReleased hst hph, id⟩

/-- A resource that is not owned is left as it is, which is as its release leaves it. -/
theorem abortClose_effect (hst : s.regs.st = 7#3) (hph : s.regs.ph = 0#4) : HandlerEffect s (abortClose s) := by
  unfold abortClose
  split_ifs with hopen
  · exact ⟨.abortClosed hst hph, id⟩
  · have hregs : (s.goto 7#3 1#4).regs = { s.regs with sinkOpen := false, st := 7#3, ph := 1#4 } := by
      rw [← Bool.eq_false_of_not_eq_true hopen, State.goto]
    exact ⟨hregs ▸ .abortClosed hst hph, id⟩

theorem abortActuator_effect (hst : s.regs.st = 7#3) (hph : s.regs.ph = 1#4) :
    HandlerEffect s (abortActuator s) where
  edge := by
    rw [abortActuator, State.goto, releaseActuator_regs]
    exact .abortActuatorReleased hst hph
  memory := by
    rw [abortActuator, State.goto_env, releaseActuator_memory]
    exact id

theorem abortBus_effect (hst : s.regs.st = 7#3) (hph : s.regs.ph = 2#4) : HandlerEffect s (abortBus s) := by
  unfold abortBus
  split_ifs with howned
  · exact ⟨.abortBusReleased hst hph, id⟩
  · have hregs : (s.goto 7#3 3#4).regs = { s.regs with busOwned := false, st := 7#3, ph := 3#4 } := by
      rw [← Bool.eq_false_of_not_eq_true howned, State.goto]
    exact ⟨hregs ▸ .abortBusReleased hst hph, id⟩

/-! ### The handlers -/

theorem execStInitializing_effect (hst : s.regs.st = 1#3) (h : execStInitializing s.regs.ph s = .next u) :
    HandlerEffect s u := by
  unfold execStInitializing at h
  split at h <;> cases h
  case h_1 hph => exact initCaptureTime_effect hst (BitVec.eq_of_toNat_eq hph)
  case h_2 hph => exact initOpenBus_effect hst (BitVec.eq_of_toNat_eq hph)
  case h_3 hph => exact initOpenSink_effect hst (BitVec.eq_of_toNat_eq hph)
  case h_10 hph => exact initCheckIdentity_effect hst (BitVec.eq_of_toNat_eq hph)
  all_goals exact initWriteStep_effect hst (by bv_omega) (by bv_omega)

theorem execStSampling_effect (hst : s.regs.st = 3#3) (h : execStSampling s.regs.ph s = .next u) :
    HandlerEffect s u := by
  unfold execStSampling at h
  split at h <;> cases h
  case h_1 hph => exact sampleHigh_effect hst (BitVec.eq_of_toNat_eq hph)
  case h_2 hph => exact sampleLow_effect hst (BitVec.eq_of_toNat_eq hph)
  case h_3 hph => exact sampleTime_effect hst (BitVec.eq_of_toNat_eq hph)
  case h_4 hph => exact sampleEmit_effect hst (BitVec.eq_of_toNat_eq hph)

theorem execStTerminating_effect (hst : s.regs.st = 5#3) (h : execStTerminating s.regs.ph s = .next u) :
    HandlerEffect s u := by
  unfold execStTerminating at h
  split at h <;> cases h
  case h_1 hph => exact terminateClose_effect hst (BitVec.eq_of_toNat_eq hph)
  case h_2 hph => exact terminateActuator_effect hst (BitVec.eq_of_toNat_eq hph)
  case h_3 hph => exact terminateBus_effect hst (BitVec.eq_of_toNat_eq hph)

theorem execStAborted_effect (hst : s.regs.st = 7#3) (h : execStAborted s.regs.ph s = .next u) :
    HandlerEffect s u := by
  unfold execStAborted at h
  split at h <;> cases h
  case h_1 hph => exact abortClose_effect hst (BitVec.eq_of_toNat_eq hph)
  case h_2 hph => exact abortActuator_effect hst (BitVec.eq_of_toNat_eq hph)
  case h_3 hph => exact abortBus_effect hst (BitVec.eq_of_toNat_eq hph)
  case h_4 hph => exact ⟨.waited (.inr (.inr ⟨hst, BitVec.eq_of_toNat_eq hph⟩)), id⟩

/-- The handler that (ST, PH) selects takes an edge of R259. -/
theorem exec_handler_effect (h : exec (decodeFsm (pcCode s.regs.st s.regs.ph)) s = .next u) : HandlerEffect s u := by
  rw [decodeFsm_pcCode] at h
  split at h
  case h_1 hst =>
    simp only [exec, execStIdle] at h
    split at h <;> cases h
    exact idleStep_effect ⟨BitVec.eq_of_toNat_eq hst, ‹_›⟩
  case h_2 hst => exact execStInitializing_effect (BitVec.eq_of_toNat_eq hst) h
  case h_3 hst =>
    simp only [exec, execStPolling] at h
    split at h <;> cases h
    exact pollStep_effect (BitVec.eq_of_toNat_eq hst) ‹_›
  case h_4 hst => exact execStSampling_effect (BitVec.eq_of_toNat_eq hst) h
  case h_5 hst =>
    simp only [exec, execStActuating] at h
    split at h <;> cases h
    exact actuateStep_effect (BitVec.eq_of_toNat_eq hst) ‹_›
  case h_6 hst => exact execStTerminating_effect (BitVec.eq_of_toNat_eq hst) h
  case h_7 hst =>
    simp only [exec, execStDone] at h
    split at h <;> cases h
    exact ⟨.waited (.inr (.inl ⟨BitVec.eq_of_toNat_eq hst, ‹_›⟩)), id⟩
  case h_8 =>
    simp only [imp_false] at *
    exact execStAborted_effect (by bv_omega) h

end

/-! ## The driver operations -/

/-- A word of a driver program decodes to a driver operation and never to a state handler (R143). -/
theorem drvOpCode_of_decodeDrv {w : DrvWord} {i : Instr} (h : decodeDrv w = .ok i) : i.drvOpCode ≠ none := by
  unfold decodeDrv at h
  split at h
  · cases h
  · split at h
    case h_2 => cases h; nofun
    case h_3 | h_4 => unfold decodeChannelOp at h; split_ifs at h; cases h; nofun
    case h_7 => cases h
    all_goals split_ifs at h; cases h; nofun

/-- R160: a driver operation writes no register of the block; the writes it makes keep the memory canonical. -/
theorem exec_driver_effect {i : Instr} {s u : State} (hi : i.drvOpCode ≠ none) (h : exec i s = .next u) :
    u.regs = s.regs ∧ (s.env.regs.wf → u.env.regs.wf) := by
  cases i with
  | rdreg a =>
    simp only [exec, execRdreg] at h
    split at h <;> cases h
    unfold driverRead
    split <;> exact ⟨rfl, id⟩
  | wrreg a d =>
    simp only [exec, execWrreg] at h
    split at h <;> cases h
    unfold driverWrite
    split <;> exact ⟨rfl, fun h => Env.wf_regsAfterWrite h _ _⟩
  | init ch =>
    simp only [exec, execInit] at h
    split at h <;> cases h
    exact ⟨(driverInit_cases _ 0 s).1, wf_driverInit⟩
  | rdch ch =>
    simp only [exec, execRdch] at h
    split at h <;> cases h
    unfold driverReadChannel
    split
    · unfold driverReadLow
      split <;> exact ⟨rfl, id⟩
    · exact ⟨rfl, id⟩
  | verid d =>
    cases h
    unfold driverVerify
    split <;> exact ⟨rfl, id⟩
  | swap16 d =>
    cases h
    exact ⟨rfl, id⟩
  | stIdle ph | stInitializing ph | stPolling ph | stSampling ph | stActuating ph | stTerminating ph | stDone ph
  | stAborted ph => exact absurd rfl hi

/-! ## The step -/

/-- Everything a step can do to the registers and the memory: the reset step with `rst` high; else a handler's edge, when
the state machine is not in IDLE or no program waits there; else a driver operation, which leaves the registers alone. -/
theorem step_effect_cases {s t : State} (h : step s = .next t) :
    s.host.rst = true ∧ t = (resetStep { s with diag := [], drvResult := none }).tick
      ∨ s.host.rst = false ∧ (s.env.regs.wf → t.env.regs.wf)
        ∧ (HandlerNext s ∧ RegsStep s.begin t.regs ∨ AtIdle s.regs ∧ s.drv ≠ [] ∧ t.regs = s.regs) := by
  obtain ⟨-, hreset | ⟨hr, i, u, hf, he, rfl⟩⟩ := step_cases h
  · exact .inl hreset
  refine .inr ⟨hr, ?_⟩
  obtain ⟨hn, -, hf'⟩ | ⟨w, rest, hst, hph, hdrv, -, hf'⟩ := State.fetch_cases s
  · cases hf.symm.trans hf'
    obtain ⟨hedge, hmemory⟩ := exec_handler_effect (s := s.begin) he
    exact ⟨hmemory, .inl ⟨hn, hedge⟩⟩
  · obtain ⟨hregs, hmemory⟩ := exec_driver_effect (drvOpCode_of_decodeDrv (hf'.symm.trans hf)) he
    exact ⟨hmemory, .inr ⟨⟨hst, hph⟩, by simp [hdrv], hregs⟩⟩

end Sys2Proof.Machine
end

section
/-! PROOFS. The commanded value (R44, R241, R242), the offered configuration (R200) and the elapsed time (R223) as
integers. -/

namespace Sys2Proof.Machine
open Sys2Proof.Safety

/-- The model's 17-bit magnitude is the absolute value (R241). -/
theorem cmdMagnitude_toNat (c : Word16) : (cmdMagnitude c).toNat = c.toInt.natAbs := by
  have hx : (c.signExtend 17).toInt = c.toInt := BitVec.toInt_signExtend_of_le (by omega)
  have habs : cmdMagnitude c = (c.signExtend 17).abs := rfl
  rw [habs, BitVec.toNat_abs, ← hx, BitVec.toInt_eq_msb_cond]
  split <;> omega

/-- The comparison of R241 in 17 bits is the comparison of the integers. -/
theorem exceedsLimit_eq_false_iff (c lim : Word16) : exceedsLimit c lim = false ↔ c.toInt.natAbs ≤ lim.toNat := by
  rw [exceedsLimit, decide_eq_false_iff_not, BitVec.not_lt, BitVec.le_def, cmdMagnitude_toNat,
    BitVec.toNat_setWidth_of_le (by omega)]

/-- R242: the sum is exact when limit and increment together stay inside 16 bits. -/
theorem cmdNext_toInt {c inc : Word16} (h : c.toInt.natAbs + inc.toInt.natAbs ≤ 32767) :
    (cmdNext c inc).toInt = c.toInt + inc.toInt := by
  rw [cmdNext, BitVec.toInt_add]
  exact Int.bmod_eq_of_le (by omega) (by omega)

/-- The model's Boolean test says what R200 says over the integers. -/
theorem configValid_iff (p : Params) (h : HostIn) : configValid p h = true ↔ ConfigurationValid p h := by
  have hinc : h.cmdInc ≠ 0x8000#16 ↔ h.cmdInc.toInt ≠ -32768 := not_congr BitVec.toInt_inj.symm
  simp only [configValid, ConfigurationValid, Bool.and_eq_true, Bool.or_eq_true, Bool.not_eq_true', beq_iff_eq,
    bne_iff_ne, decide_eq_true_eq, cmdMagnitude_toNat, hinc, and_assoc, Int.abs_eq_natAbs]
  refine and_congr_right fun _ => and_congr_right fun _ => and_congr_right fun _ => or_congr_right ?_
  have := h.cmdInc.le_toInt
  have := h.cmdInc.toInt_lt
  omega

/-- A nanoseconds answer is below one second in its 30-bit register too (R36). -/
theorem nsecWord_le (n : Fin 1000000000) : (nsecWord n).toNat ≤ 999999999 := by
  have := n.isLt
  simp only [nsecWord, BitVec.toNat_ofNat]
  omega

/-- The elapsed seconds fit in W_SEC bits (R36, R223). -/
theorem elapsed_sec_lt (w t0s sec : Nat) (t0n n : Nsec) : (elapsed w t0s sec t0n n).1 < 2 ^ w := by
  unfold elapsed
  split <;> exact narrow_lt _ _

/-- The elapsed nanoseconds are below one second, with or without a borrow (R223). -/
theorem elapsed_nsec_le {w t0s sec : Nat} {t0n n : Nsec} (h0 : t0n.toNat ≤ 999999999) (hn : n.toNat ≤ 999999999) :
    (elapsed w t0s sec t0n n).2.toNat ≤ 999999999 := by
  unfold elapsed
  simp only [secondNs]
  split <;> bv_omega

end Sys2Proof.Machine
end

section
/-! PROOFS. The invariant state by state: what it says of the registers at each value of ST (R259), and that every edge of
the control-flow graph leads from registers that have it to registers that have it. -/

namespace Sys2Proof.Machine
open Sys2Proof.Safety

/-! ## The registers' part of the invariant -/

/-- The fields of `Inv` that speak of the registers. -/
structure RegsOk (p : Params) (r : Regs) : Prop where
  /-- The program counter. -/
  listed : pcListed r.st r.ph = true
  /-- The error record. -/
  errorRecord : ErrorRecordOk r
  /-- The ownership flags. -/
  ownership : OwnershipOk r
  /-- The counters. -/
  counters : CountersOk p r
  /-- The widths that are parameters. -/
  widths : WidthsOk p r
  /-- The configuration and the commanded value. -/
  config : ConfigOk p r
  /-- The time registers. -/
  times : TimesOk r
  /-- The reading about to be emitted. -/
  reading : ReadingOk r

/-- The invariant is that of the parameters, of the memory and of the registers. -/
theorem inv_iff {s : State} : Inv s ↔ paramsLegal s.params = true ∧ s.env.regs.wf ∧ RegsOk s.params s.regs := by
  constructor
  · rintro ⟨hlegal, hlisted, hmemory, herror, hown, hcount, hwidths, hconfig, htimes, hreading⟩
    exact ⟨hlegal, hmemory, hlisted, herror, hown, hcount, hwidths, hconfig, htimes, hreading⟩
  · rintro ⟨hlegal, hmemory, hlisted, herror, hown, hcount, hwidths, hconfig, htimes, hreading⟩
    exact ⟨hlegal, hlisted, hmemory, herror, hown, hcount, hwidths, hconfig, htimes, hreading⟩

/-- R39: no error is recorded. -/
abbrev ErrorClear (r : Regs) : Prop :=
  r.err = 0#3 ∧ r.estate = 0#3 ∧ r.eph = 0#4 ∧ r.eaddr = 0#8 ∧ r.eexp = 0#16 ∧ r.eact = 0#16

/-- R44, R200, R242: the configuration of a run under way, and the bound on the commanded value. -/
abbrev RunConfigOk (p : Params) (r : Regs) : Prop :=
  r.cfgCh = 0#2 ∧ 1 ≤ r.cfgNsamp ∧ r.cfgNsamp ≤ p.maxSamples ∧ (r.cfgAct = false → r.cmd = p.cmdInit)
    ∧ (r.cfgAct = true →
        1 ≤ r.cfgStep ∧ r.cfgStep ≤ p.maxStep ∧ r.cfgInc ≠ 0x8000#16
        ∧ r.cfgLim.toNat + r.cfgInc.toInt.natAbs ≤ 32767
        ∧ r.cmd.toInt.natAbs ≤ r.cfgLim.toNat + r.cfgInc.toInt.natAbs)

/-- R37: what the counters satisfy at every program counter value. -/
abbrev Counted (p : Params) (r : Regs) : Prop :=
  r.nit = r.nem + r.nsk ∧ r.nit ≤ r.cfgNsamp ∧ (r.cfgAct = false → r.sct = 0) ∧ (r.cfgAct = true → r.sct ≤ r.cfgStep)
    ∧ (p.pollLimit ≠ 0 → r.polls ≤ p.pollLimit)

/-- R200: no iteration has been made. -/
abbrev NothingCounted (r : Regs) : Prop :=
  r.nit = 0 ∧ r.nem = 0 ∧ r.nsk = 0 ∧ r.sct = 0 ∧ r.polls = 0 ∧ r.efs = 0#4

/-- R37: what the counters satisfy besides, by the program counter. -/
abbrev CountedAtPc (r : Regs) : Prop :=
  (r.st = 0#3 ∨ r.st = 1#3 → NothingCounted r) ∧ (r.st = 2#3 ∨ r.st = 3#3 ∨ r.st = 4#3 → r.nit < r.cfgNsamp)
    ∧ (r.cfgAct = true → r.st = 2#3 ∨ r.st = 3#3 → r.sct < r.cfgStep) ∧ (r.st = 4#3 → r.cfgAct = true ∧ r.sct = 0)
    ∧ (r.st = 3#3 ∨ r.st = 4#3 → r.polls = 0)

/-- What holds of a run from its start to DONE, whatever the program counter. -/
abbrev RunOk (p : Params) (r : Regs) : Prop := ErrorClear r ∧ RunConfigOk p r ∧ WidthsOk p r ∧ Counted p r

/-- What holds of a run in POLLING, SAMPLING and ACTUATING: everything is owned, and an iteration is still to come. -/
abbrev LoopOk (p : Params) (r : Regs) : Prop :=
  RunOk p r ∧ (r.busOwned = true ∧ r.sinkOpen = true ∧ r.actOwned = r.cfgAct) ∧ r.t0n.toNat ≤ 999999999
    ∧ r.nit < r.cfgNsamp

section
variable {p : Params} {r : Regs}

/-! ## The invariant at each state -/

theorem RegsOk.counted (h : RegsOk p r) : Counted p r := by
  obtain ⟨hsum, hle, -, -, hoff, hon, -, -, -, hlimit⟩ := h.counters
  exact ⟨hsum, hle, hoff, hon, hlimit⟩

theorem RegsOk.countedAtPc (h : RegsOk p r) : CountedAtPc r := by
  obtain ⟨-, -, hzero, hnit, -, -, hsct, hboundary, hpolls, -⟩ := h.counters
  exact ⟨hzero, hnit, hsct, hboundary, hpolls⟩

/-- From INITIALIZING to DONE the registers are those of a run under way. -/
theorem RegsOk.runOk (h : RegsOk p r) (h0 : r.st ≠ 0#3) (h7 : r.st ≠ 7#3) : RunOk p r :=
  ⟨h.errorRecord.2 h7, h.config.2 h0 h7, h.widths, h.counted⟩

/-- The other direction: what a program counter value of a run adds to `RunOk`. -/
theorem RegsOk.of_runOk (h : RunOk p r) (h0 : r.st ≠ 0#3) (h7 : r.st ≠ 7#3) (hlisted : pcListed r.st r.ph = true)
    (hown : OwnershipOk r) (hcounted : CountedAtPc r) (htimes : TimesOk r) (hreading : ReadingOk r) : RegsOk p r := by
  obtain ⟨herror, hconfig, hwidths, hsum, hle, hoff, hon, hlimit⟩ := h
  obtain ⟨hzero, hnit, hsct, hboundary, hpolls⟩ := hcounted
  exact {
    listed := hlisted
    errorRecord := ⟨(absurd · h7), fun _ => herror⟩
    ownership := hown
    counters := ⟨hsum, hle, hzero, hnit, hoff, hon, hsct, hboundary, hpolls, hlimit⟩
    widths := hwidths
    config := ⟨(absurd · h0), fun _ _ => hconfig⟩
    times := htimes
    reading := hreading }

/-- IDLE is the state after reset: every control register has its value of R50. -/
theorem RegsOk.controlReset (h : RegsOk p r) (hidle : AtIdle r) : ControlReset r := by
  obtain ⟨hst, hph⟩ := hidle
  obtain ⟨herr, hestate, heph, headdr, heexp, heact⟩ := h.errorRecord.2 (by simp [hst])
  obtain ⟨hbus, hsink, hact⟩ := h.ownership.1 (.inl hst)
  obtain ⟨hnit, hnem, hnsk, hsct, hpolls, hefs⟩ := h.countedAtPc.1 (.inl hst)
  obtain ⟨hcmd, hch, hnsamp, hstep, hinc, hlim, hcfgAct⟩ := h.config.1 hst
  exact ⟨hst, hph, herr, hestate, heph, headdr, heexp, heact, hbus, hsink, hact, hnit, hnem, hnsk, hsct, hpolls, hefs,
    hcmd, hch, hnsamp, hstep, hinc, hlim, hcfgAct⟩

/-- INITIALIZING: nothing is counted yet, and what is owned grows with the phase. -/
theorem regsOk_initializing_iff (hst : r.st = 1#3) :
    RegsOk p r ↔ RunOk p r ∧ r.ph ≤ 9#4 ∧ NothingCounted r
      ∧ (r.busOwned = decide (2#4 ≤ r.ph) ∧ r.sinkOpen = decide (3#4 ≤ r.ph) ∧ r.actOwned = r.cfgAct)
      ∧ (r.ph ≠ 0#4 → r.t0n.toNat ≤ 999999999) := by
  constructor
  · intro h
    obtain ⟨-, hown, -⟩ := h.ownership
    exact ⟨h.runOk (by simp [hst]) (by simp [hst]), by simpa [pcListed, hst] using h.listed,
      h.countedAtPc.1 (.inr hst), hown hst, fun hph => h.times.1 (.inl ⟨hst, hph⟩)⟩
  · rintro ⟨hrun, hph, hzero, hown, ht0n⟩
    exact .of_runOk hrun (by simp [hst]) (by simp [hst]) (by simpa [pcListed, hst] using hph)
      (by simp [OwnershipOk, hst, hown]) (by simpa [CountedAtPc, hst] using hzero) (by simpa [TimesOk, hst] using ht0n)
      (by simp [ReadingOk, hst])

/-- POLLING: the step is not complete. -/
theorem regsOk_polling_iff (hst : r.st = 2#3) :
    RegsOk p r ↔ LoopOk p r ∧ r.ph = 0#4 ∧ (r.cfgAct = true → r.sct < r.cfgStep) := by
  constructor
  · intro h
    obtain ⟨-, -, hown, -⟩ := h.ownership
    obtain ⟨-, hnit, hsct, -⟩ := h.countedAtPc
    exact ⟨⟨h.runOk (by simp [hst]) (by simp [hst]), hown (.inl hst), h.times.1 (by simp [hst]), hnit (.inl hst)⟩,
      by simpa [pcListed, hst] using h.listed, fun hact => hsct hact (.inl hst)⟩
  · rintro ⟨⟨hrun, hown, ht0n, hnit⟩, hph, hsct⟩
    exact .of_runOk hrun (by simp [hst]) (by simp [hst]) (by simp [pcListed, hst, hph])
      (by simp [OwnershipOk, hst, hown]) (by simpa [CountedAtPc, hst, hnit] using hsct) (by simp [TimesOk, hst, ht0n])
      (by simp [ReadingOk, hst])

/-- SAMPLING: what phase 3 emits is there from the phases before it on. -/
theorem regsOk_sampling_iff (hst : r.st = 3#3) :
    RegsOk p r ↔ LoopOk p r ∧ r.ph ≤ 3#4 ∧ (r.cfgAct = true → r.sct < r.cfgStep) ∧ r.polls = 0
      ∧ (r.ph = 3#4 → r.tsn.toNat ≤ 999999999)
      ∧ (2#4 ≤ r.ph → r.mag = assembleMag r.hi r.lo ∧ r.ef = errorFlags r.hi ∧ r.efs ||| r.ef = r.efs) := by
  constructor
  · intro h
    obtain ⟨-, -, hown, -⟩ := h.ownership
    obtain ⟨-, hnit, hsct, -, hpolls⟩ := h.countedAtPc
    exact ⟨⟨h.runOk (by simp [hst]) (by simp [hst]), hown (.inr (.inl hst)), h.times.1 (by simp [hst]),
        hnit (.inr (.inl hst))⟩,
      by simpa [pcListed, hst] using h.listed, fun hact => hsct hact (.inr hst), hpolls (.inl hst),
      fun hph => h.times.2 ⟨hst, hph⟩, h.reading hst⟩
  · rintro ⟨⟨hrun, hown, ht0n, hnit⟩, hph, hsct, hpolls, htsn, hreading⟩
    exact .of_runOk hrun (by simp [hst]) (by simp [hst]) (by simpa [pcListed, hst] using hph)
      (by simp [OwnershipOk, hst, hown]) (by simpa [CountedAtPc, hst, hnit, hpolls] using hsct)
      ⟨fun _ => ht0n, fun h => htsn h.2⟩ (fun _ => hreading)

/-- ACTUATING: a step is complete, so the actuator is enabled and the count of the next step is 0. -/
theorem regsOk_actuating_iff (hst : r.st = 4#3) :
    RegsOk p r ↔ LoopOk p r ∧ r.ph = 0#4 ∧ r.cfgAct = true ∧ r.sct = 0 ∧ r.polls = 0 := by
  constructor
  · intro h
    obtain ⟨-, -, hown, -⟩ := h.ownership
    obtain ⟨-, hnit, -, hboundary, hpolls⟩ := h.countedAtPc
    obtain ⟨hact, hsct⟩ := hboundary hst
    exact ⟨⟨h.runOk (by simp [hst]) (by simp [hst]), hown (.inr (.inr hst)), h.times.1 (by simp [hst]),
        hnit (.inr (.inr hst))⟩,
      by simpa [pcListed, hst] using h.listed, hact, hsct, hpolls (.inr hst)⟩
  · rintro ⟨⟨hrun, hown, ht0n, hnit⟩, hph, hact, hsct, hpolls⟩
    exact .of_runOk hrun (by simp [hst]) (by simp [hst]) (by simp [pcListed, hst, hph])
      (by simp [OwnershipOk, hst, hown]) (by simp [CountedAtPc, hst, hnit, hact, hsct, hpolls])
      (by simp [TimesOk, hst, ht0n]) (by simp [ReadingOk, hst])

/-- TERMINATING: what is owned shrinks with the phase. -/
theorem regsOk_terminating_iff (hst : r.st = 5#3) :
    RegsOk p r ↔ RunOk p r ∧ r.ph ≤ 2#4
      ∧ (r.busOwned = true ∧ r.sinkOpen = decide (r.ph = 0#4) ∧ r.actOwned = (r.cfgAct && decide (r.ph ≠ 2#4)))
      ∧ r.t0n.toNat ≤ 999999999 := by
  constructor
  · intro h
    obtain ⟨-, -, -, hown, -⟩ := h.ownership
    exact ⟨h.runOk (by simp [hst]) (by simp [hst]), by simpa [pcListed, hst] using h.listed, hown hst,
      h.times.1 (by simp [hst])⟩
  · rintro ⟨hrun, hph, hown, ht0n⟩
    exact .of_runOk hrun (by simp [hst]) (by simp [hst]) (by simpa [pcListed, hst] using hph)
      (by simp [OwnershipOk, hst, hown]) (by simp [CountedAtPc, hst]) (by simp [TimesOk, hst, ht0n])
      (by simp [ReadingOk, hst])

/-- DONE: nothing is owned any more. -/
theorem regsOk_done (hst : r.st = 6#3) (hph : r.ph = 0#4) (hrun : RunOk p r)
    (hown : r.busOwned = false ∧ r.sinkOpen = false ∧ r.actOwned = false) (ht0n : r.t0n.toNat ≤ 999999999) :
    RegsOk p r :=
  .of_runOk hrun (by simp [hst]) (by simp [hst]) (by simp [pcListed, hst, hph]) (by simp [OwnershipOk, hst, hown])
    (by simp [CountedAtPc, hst]) (by simp [TimesOk, hst, ht0n]) (by simp [ReadingOk, hst])

/-- ABORTED: the code of an error is recorded, the counts stand, and what is owned shrinks with the phase. -/
theorem regsOk_aborted_iff (hst : r.st = 7#3) :
    RegsOk p r ↔ (r.err = 1#3 ∨ r.err = 2#3 ∨ r.err = 4#3 ∨ r.err = 5#3 ∨ r.err = 6#3) ∧ WidthsOk p r ∧ Counted p r
      ∧ r.ph ≤ 3#4 ∧ (r.ph ≠ 0#4 → r.sinkOpen = false) ∧ (2#4 ≤ r.ph → r.actOwned = false)
      ∧ (r.ph = 3#4 → r.busOwned = false) ∧ (r.cfgAct = false → r.actOwned = false) := by
  constructor
  · intro h
    obtain ⟨-, -, -, -, hown⟩ := h.ownership
    exact ⟨h.errorRecord.1 hst, h.widths, h.counted, by simpa [pcListed, hst] using h.listed, hown hst⟩
  · rintro ⟨herr, hwidths, ⟨hsum, hle, hoff, hon, hlimit⟩, hph, hown⟩
    exact {
      listed := by simpa [pcListed, hst] using hph
      errorRecord := ⟨fun _ => herr, (absurd hst ·)⟩
      ownership := by simpa [OwnershipOk, hst] using hown
      counters := ⟨hsum, hle, by simp [hst], by simp [hst], hoff, hon, by simp [hst], by simp [hst], by simp [hst],
        hlimit⟩
      widths := hwidths
      config := by simp [ConfigOk, hst]
      times := by simp [TimesOk, hst]
      reading := by simp [ReadingOk, hst] }

end

end Sys2Proof.Machine
end

section
/-! PROOFS. Every edge of the control-flow graph keeps the invariant, so every step does (R36 to R44, R259), and so does
every run from reset. -/

namespace Sys2Proof.Machine
open Sys2Proof.Safety

/-! ## Leaving IDLE -/

section
variable {s : State}

/-- R200: a valid configuration is a legal one for the run, with the commanded value at CMD_INIT (R201). -/
theorem runConfigOk_runStart (hvalid : configValid s.params (offered s.params s.host) = true) :
    RunConfigOk s.params (runStart (latchConfig s)).regs := by
  obtain ⟨hch, ⟨hone, hmax⟩, hact⟩ := (configValid_iff _ _).mp hvalid
  refine ⟨hch, hone, hmax, fun _ => rfl, fun hen => ?_⟩
  obtain ⟨hstep, hmaxStep, hinc, hlim, hcmd⟩ := hact.resolve_left (by simpa [offered] using hen)
  simp only [offered, Int.abs_eq_natAbs] at hlim hcmd
  exact ⟨hstep, hmaxStep, fun h => hinc (congrArg BitVec.toInt h), by simp; omega, by simp; omega⟩

/-- R61: the latched counts fit in W_CNT bits, valid or not. -/
theorem widthsOk_latchConfig (h : WidthsOk s.params s.regs) : WidthsOk s.params (latchConfig s).regs := by
  obtain ⟨⟨hnit, hnem, hnsk, hsct, hpolls, -, -⟩, hsec⟩ := h
  obtain ⟨hnsamp, hstep⟩ := offered_lt s.params s.host
  exact ⟨⟨hnit, hnem, hnsk, hsct, hpolls, hnsamp, hstep⟩, hsec⟩

/-- R50: after reset nothing is counted, whatever configuration is latched. -/
theorem counted_latchConfig (hreset : ControlReset s.regs) : Counted s.params (latchConfig s).regs := by
  obtain ⟨-, -, -, -, -, -, -, -, -, -, -, hnit, hnem, hnsk, hsct, hpolls, -⟩ := hreset
  simp [Counted, hnit, hnem, hnsk, hsct, hpolls]

theorem regsOk_runStart (h : RegsOk s.params s.regs) (hidle : AtIdle s.regs)
    (hvalid : configValid s.params (offered s.params s.host) = true) :
    RegsOk s.params (runStart (latchConfig s)).regs := by
  have hreset := h.controlReset hidle
  obtain ⟨-, -, herr, hestate, heph, headdr, heexp, heact, hbus, hsink, -, hnit, hnem, hnsk, hsct, hpolls, hefs, -⟩ :=
    h.controlReset hidle
  exact (regsOk_initializing_iff rfl).mpr
    ⟨⟨⟨herr, hestate, heph, headdr, heexp, heact⟩, runConfigOk_runStart hvalid, widthsOk_latchConfig (s := s) h.widths,
        counted_latchConfig (s := s) hreset⟩,
      by simp, ⟨hnit, hnem, hnsk, hsct, hpolls, hefs⟩, ⟨hbus, hsink, rfl⟩, (absurd rfl ·)⟩

theorem regsOk_rejected (h : RegsOk s.params s.regs) (hidle : AtIdle s.regs) :
    RegsOk s.params (abortPlain .configValidationError 0#3 0#4 (latchConfig s)).regs := by
  have hreset := h.controlReset hidle
  obtain ⟨-, -, -, -, -, -, -, -, hbus, hsink, hact, -⟩ := h.controlReset hidle
  exact (regsOk_aborted_iff rfl).mpr
    ⟨.inr (.inr (.inl rfl)), widthsOk_latchConfig (s := s) h.widths, counted_latchConfig (s := s) hreset,
      by simp [abortPlain_eq], fun _ => hsink,
      fun _ => hact, fun _ => hbus, fun _ => hact⟩

end

/-! ## INITIALIZING -/

section
variable {p : Params} {r : Regs}

theorem regsOk_timeCaptured (h : RegsOk p r) (hst : r.st = 1#3) (hph : r.ph = 0#4) {t : Instant}
    (ht : t.sec < 2 ^ p.wSec) :
    RegsOk p { r with t0s := t.sec, t0n := nsecWord t.nsec, st := 1#3, ph := 1#4 } := by
  obtain ⟨⟨herror, hconfig, ⟨hcounters, -, htss⟩, hcounted⟩, -, hzero, ⟨hbus, hsink, hact⟩, -⟩ :=
    (regsOk_initializing_iff hst).mp h
  rw [hph] at hbus hsink
  exact (regsOk_initializing_iff rfl).mpr
    ⟨⟨herror, hconfig, ⟨hcounters, ht, htss⟩, hcounted⟩, by simp, hzero, ⟨hbus, hsink, hact⟩,
      fun _ => nsecWord_le t.nsec⟩

theorem regsOk_busOpened (h : RegsOk p r) (hst : r.st = 1#3) (hph : r.ph = 1#4) :
    RegsOk p { r with busOwned := true, st := 1#3, ph := 2#4 } := by
  obtain ⟨hrun, -, hzero, ⟨-, hsink, hact⟩, ht0n⟩ := (regsOk_initializing_iff hst).mp h
  rw [hph] at hsink ht0n
  exact (regsOk_initializing_iff rfl).mpr
    ⟨hrun, by simp, hzero, ⟨rfl, hsink, hact⟩, fun _ => ht0n (by decide)⟩

theorem regsOk_sinkOpened (h : RegsOk p r) (hst : r.st = 1#3) (hph : r.ph = 2#4) :
    RegsOk p { r with sinkOpen := true, st := 1#3, ph := 3#4 } := by
  obtain ⟨hrun, -, hzero, ⟨hbus, -, hact⟩, ht0n⟩ := (regsOk_initializing_iff hst).mp h
  rw [hph] at hbus ht0n
  exact (regsOk_initializing_iff rfl).mpr
    ⟨hrun, by simp, hzero, ⟨hbus, rfl, hact⟩, fun _ => ht0n (by decide)⟩

/-- From phase 3 on bus and sink are owned. -/
theorem regsOk_entryWritten (h : RegsOk p r) (hst : r.st = 1#3) (hlo : 3#4 ≤ r.ph) (hhi : r.ph ≤ 8#4) :
    RegsOk p { r with st := 1#3, ph := r.ph + 1 } := by
  obtain ⟨hrun, -, hzero, ⟨hbus, hsink, hact⟩, ht0n⟩ := (regsOk_initializing_iff hst).mp h
  have hbus' : r.busOwned = decide (2#4 ≤ r.ph + 1) := hbus.trans (decide_eq_decide.mpr (by bv_omega))
  have hsink' : r.sinkOpen = decide (3#4 ≤ r.ph + 1) := hsink.trans (decide_eq_decide.mpr (by bv_omega))
  have hph : r.ph + 1 ≤ 9#4 := by bv_omega
  exact (regsOk_initializing_iff rfl).mpr
    ⟨hrun, hph, hzero, ⟨hbus', hsink', hact⟩, fun _ => ht0n (by bv_omega)⟩

/-- R207: the first poll has nothing counted, so the step is not complete and an iteration is to come. -/
theorem regsOk_identified (h : RegsOk p r) (hst : r.st = 1#3) (hph : r.ph = 9#4) :
    RegsOk p { r with st := 2#3, ph := 0#4 } := by
  obtain ⟨hrun, -, ⟨hnit, -, -, hsct, -⟩, ⟨hbus, hsink, hact⟩, ht0n⟩ := (regsOk_initializing_iff hst).mp h
  obtain ⟨-, hnsamp, -, -, hactive⟩ := h.config.2 (by simp [hst]) (by simp [hst])
  rw [hph] at hbus hsink ht0n
  refine (regsOk_polling_iff rfl).mpr
    ⟨⟨hrun, ⟨hbus, hsink, hact⟩, ht0n (by decide), hnit.trans_lt hnsamp⟩, rfl, fun hen => ?_⟩
  obtain ⟨hstep, -⟩ := hactive hen
  exact hsct.trans_lt hstep

/-! ## The loop -/

/-- Outside IDLE, TERMINATING and the final states the actuator is owned exactly when it is enabled (R40). -/
theorem RegsOk.actOwned_eq (h : RegsOk p r) (hst : r.st ∈ [1#3, 2#3, 3#3, 4#3]) : r.actOwned = r.cfgAct := by
  obtain ⟨-, hinit, hloop, -⟩ := h.ownership
  simp only [List.mem_cons, List.not_mem_nil, or_false] at hst
  obtain hst | hst := hst
  · obtain ⟨-, -, hact⟩ := hinit hst
    exact hact
  · obtain ⟨-, -, hact⟩ := hloop hst
    exact hact

theorem regsOk_stopped (h : RegsOk p r) (hst : r.st = 2#3 ∨ r.st = 4#3) :
    RegsOk p { r with st := 5#3, ph := 0#4 } := by
  have hloop : LoopOk p r := hst.elim (fun hst => ((regsOk_polling_iff hst).mp h).1)
    fun hst => ((regsOk_actuating_iff hst).mp h).1
  obtain ⟨hrun, ⟨hbus, hsink, hact⟩, ht0n, -⟩ := hloop
  exact (regsOk_terminating_iff rfl).mpr ⟨hrun, by simp, ⟨hbus, hsink, by simp [hact]⟩, ht0n⟩

/-- R211, R213: below the poll limit POLLS counts up to the limit at most, and it never wraps. -/
theorem regsOk_polled (h : RegsOk p r) (hst : r.st = 2#3) (hlimit : p.pollLimit ≠ 0 → r.polls < p.pollLimit)
    (v : Word16) : RegsOk p { r with stat := v, polls := satSucc p.wCnt r.polls } := by
  obtain ⟨⟨⟨herror, hconfig, ⟨⟨hnit, hnem, hnsk, hsct, hpolls, hcfg⟩, hsec⟩, hsum, hle, hoff, hon, -⟩, hloop⟩, hpoll⟩ :=
    (regsOk_polling_iff hst).mp h
  have hcase := satSucc_cases p.wCnt r.polls
  have hfits : satSucc p.wCnt r.polls < 2 ^ p.wCnt := by omega
  have hbound : p.pollLimit ≠ 0 → satSucc p.wCnt r.polls ≤ p.pollLimit := by omega
  exact (regsOk_polling_iff (r := { r with stat := v, polls := satSucc p.wCnt r.polls }) hst).mpr
    ⟨⟨⟨herror, hconfig, ⟨⟨hnit, hnem, hnsk, hsct, hfits, hcfg⟩, hsec⟩, hsum, hle, hoff, hon, hbound⟩, hloop⟩, hpoll⟩

theorem regsOk_ready (h : RegsOk p r) (hst : r.st = 2#3) (v : Word16) :
    RegsOk p { r with stat := v, polls := 0, st := 3#3, ph := 0#4 } := by
  obtain ⟨⟨⟨herror, hconfig, ⟨⟨hnit, hnem, hnsk, hsct, -, hcfg⟩, hsec⟩, hsum, hle, hoff, hon, -⟩, hloop⟩, -, hstep⟩ :=
    (regsOk_polling_iff hst).mp h
  exact (regsOk_sampling_iff rfl).mpr
    ⟨⟨⟨herror, hconfig, ⟨⟨hnit, hnem, hnsk, hsct, Nat.two_pow_pos _, hcfg⟩, hsec⟩, hsum, hle, hoff, hon,
        fun _ => Nat.zero_le _⟩, hloop⟩, by simp, hstep, rfl, by simp, by simp⟩

theorem regsOk_highRead (h : RegsOk p r) (hst : r.st = 3#3) (v : Word16) :
    RegsOk p { r with hi := v, st := 3#3, ph := 1#4 } := by
  obtain ⟨hloop, -, hstep, hpolls, -⟩ := (regsOk_sampling_iff hst).mp h
  exact (regsOk_sampling_iff rfl).mpr ⟨hloop, by simp, hstep, hpolls, by simp, by simp⟩

/-- R222: the reading is that of HI and LO, and the sticky flags cover it. -/
theorem regsOk_lowRead (h : RegsOk p r) (hst : r.st = 3#3) (l : Word16) :
    RegsOk p { r with
      lo := l, ef := errorFlags r.hi, mag := assembleMag r.hi l, efs := stickyFlags r.efs (errorFlags r.hi),
      st := 3#3, ph := 2#4 } := by
  obtain ⟨hloop, -, hstep, hpolls, -⟩ := (regsOk_sampling_iff hst).mp h
  have hsticky : stickyFlags r.efs (errorFlags r.hi) ||| errorFlags r.hi = stickyFlags r.efs (errorFlags r.hi) := by
    rw [stickyFlags, BitVec.or_assoc, BitVec.or_self]
  exact (regsOk_sampling_iff rfl).mpr
    ⟨hloop, by simp, hstep, hpolls, by simp, fun _ => ⟨rfl, rfl, hsticky⟩⟩

theorem regsOk_stamped (h : RegsOk p r) (hst : r.st = 3#3) (hph : r.ph = 2#4) (t : Instant) :
    RegsOk p { r with
      tss := (elapsed p.wSec r.t0s t.sec r.t0n (nsecWord t.nsec)).1
      tsn := (elapsed p.wSec r.t0s t.sec r.t0n (nsecWord t.nsec)).2
      st := 3#3, ph := 3#4 } := by
  obtain ⟨⟨⟨herror, hconfig, ⟨hcounters, ht0s, -⟩, hcounted⟩, hown, ht0n, hnit⟩, -, hstep, hpolls, -, hreading⟩ :=
    (regsOk_sampling_iff hst).mp h
  rw [hph] at hreading
  exact (regsOk_sampling_iff rfl).mpr
    ⟨⟨⟨herror, hconfig, ⟨hcounters, ht0s, elapsed_sec_lt _ _ _ _ _⟩, hcounted⟩, hown, ht0n, hnit⟩, by simp, hstep,
      hpolls, fun _ => elapsed_nsec_le ht0n (nsecWord_le t.nsec), fun _ => hreading (by decide)⟩

/-- R37: while an iteration is under way, a counter up to NIT counts up without a wrap. -/
theorem RegsOk.succCnt_eq (h : RegsOk p r) (hst : r.st = 3#3) {c : Nat} (hc : c ≤ r.nit) :
    succCnt p.wCnt c = c + 1 := by
  obtain ⟨-, hlt, -⟩ := h.countedAtPc
  obtain ⟨⟨-, -, -, -, -, hfits, -⟩, -⟩ := h.widths
  have := hlt (.inr (.inl hst))
  exact succCnt_of_lt (by omega)

theorem nextSct_eq_zero {w : Nat} (h : r.cfgAct = false → r.sct = 0) (hoff : r.cfgAct = false) : nextSct w r = 0 := by
  simp [nextSct, hoff, h hoff]

theorem nextSct_le {w : Nat} (h : r.cfgAct = true → r.sct < r.cfgStep) (hfits : r.cfgStep < 2 ^ w)
    (hon : r.cfgAct = true) : nextSct w r ≤ r.cfgStep := by
  have := h hon
  rw [nextSct, if_pos hon, succCnt_of_lt (by omega)]
  exact this

theorem nextSct_lt {w : Nat} (h : r.sct < 2 ^ w) : nextSct w r < 2 ^ w := by
  unfold nextSct
  split
  · exact succCnt_lt w _
  · exact h

/-- R230, R231: the end of an iteration after which `m` samples were emitted and `k` skipped. -/
theorem regsOk_advanceRegs (h : RegsOk p r) (hst : r.st = 3#3) {m k : Nat} (hcount : r.nit + 1 = m + k) :
    RegsOk p (advanceRegs p.wCnt { r with nem := m, nsk := k }) := by
  obtain ⟨⟨⟨herror, hconfig, ⟨⟨-, -, -, hsctFits, hpollsFits, hnsampFits, hstepFits⟩, hsec⟩, -, -, hoff, -, hlimit⟩,
    ⟨hbus, hsink, hact⟩, ht0n, hlt⟩, -, hstep, hpolls, -⟩ := (regsOk_sampling_iff hst).mp h
  have hnit : succCnt p.wCnt r.nit = r.nit + 1 := h.succCnt_eq hst le_rfl
  have hzero := nextSct_eq_zero (w := p.wCnt) hoff
  have hle := nextSct_le hstep hstepFits
  have hm : m < 2 ^ p.wCnt := by omega
  have hk : k < 2 ^ p.wCnt := by omega
  have hn : r.nit + 1 < 2 ^ p.wCnt := by omega
  obtain ⟨-, heq⟩ | ⟨hmore, hen, -, heq⟩ | ⟨hmore, hboundary, heq⟩ :=
    advanceRegs_cases p.wCnt { r with nem := m, nsk := k } <;> rw [heq] <;> simp only [hnit] at *
  · exact (regsOk_terminating_iff rfl).mpr
      ⟨⟨herror, hconfig, ⟨⟨hn, hm, hk, nextSct_lt hsctFits, hpollsFits, hnsampFits, hstepFits⟩, hsec⟩,
          hcount, hlt, hzero, hle, hlimit⟩,
        by simp, ⟨hbus, hsink, by simp [hact]⟩, ht0n⟩
  · exact (regsOk_actuating_iff rfl).mpr
      ⟨⟨⟨herror, hconfig, ⟨⟨hn, hm, hk, Nat.two_pow_pos _, hpollsFits, hnsampFits, hstepFits⟩, hsec⟩,
          hcount, hlt, fun _ => rfl, fun _ => Nat.zero_le _, hlimit⟩,
        ⟨hbus, hsink, hact⟩, ht0n, Nat.lt_of_le_of_ne hlt hmore⟩, rfl, hen, rfl, hpolls⟩
  · exact (regsOk_polling_iff rfl).mpr
      ⟨⟨⟨herror, hconfig, ⟨⟨hn, hm, hk, nextSct_lt hsctFits, hpollsFits, hnsampFits, hstepFits⟩, hsec⟩,
          hcount, hlt, hzero, hle, hlimit⟩,
        ⟨hbus, hsink, hact⟩, ht0n, Nat.lt_of_le_of_ne hlt hmore⟩, rfl,
        fun hon => Nat.lt_of_le_of_ne (hle hon) fun he => hboundary ⟨hon, he⟩⟩

/-- R241, R242: a command within its limit is incremented without overflow. -/
theorem regsOk_sent (h : RegsOk p r) (hst : r.st = 4#3) (hlimit : exceedsLimit r.cmd r.cfgLim = false) :
    RegsOk p { r with cmd := cmdNext r.cmd r.cfgInc, st := 2#3, ph := 0#4 } := by
  obtain ⟨⟨⟨herror, ⟨hch, hone, hmax, -, hactive⟩, hwidths, hcounted⟩, hown⟩, -, hen, hsct, -⟩ :=
    (regsOk_actuating_iff hst).mp h
  obtain ⟨hstep, hmaxStep, hinc, hsum, -⟩ := hactive hen
  have hcmd := (exceedsLimit_eq_false_iff r.cmd r.cfgLim).mp hlimit
  have hnext : (cmdNext r.cmd r.cfgInc).toInt.natAbs ≤ r.cfgLim.toNat + r.cfgInc.toInt.natAbs := by
    rw [cmdNext_toInt (by omega)]
    omega
  exact (regsOk_polling_iff rfl).mpr
    ⟨⟨⟨herror, ⟨hch, hone, hmax, fun hoff => absurd (hen.symm.trans hoff) nofun,
        fun _ => ⟨hstep, hmaxStep, hinc, hsum, hnext⟩⟩, hwidths, hcounted⟩, hown⟩, rfl,
      fun _ => hsct.trans_lt hstep⟩

/-! ## The two exits -/

theorem regsOk_closed (h : RegsOk p r) (hst : r.st = 5#3) (hph : r.ph = 0#4) :
    RegsOk p { r with sinkOpen := false, st := 5#3, ph := 1#4 } := by
  obtain ⟨hrun, -, ⟨hbus, -, hact⟩, ht0n⟩ := (regsOk_terminating_iff hst).mp h
  rw [hph] at hact
  exact (regsOk_terminating_iff rfl).mpr ⟨hrun, by simp, ⟨hbus, rfl, hact⟩, ht0n⟩

theorem regsOk_actuatorReleased (h : RegsOk p r) (hst : r.st = 5#3) (hph : r.ph = 1#4) :
    RegsOk p { r with actOwned := false, st := 5#3, ph := 2#4 } := by
  obtain ⟨hrun, -, ⟨hbus, hsink, -⟩, ht0n⟩ := (regsOk_terminating_iff hst).mp h
  rw [hph] at hsink
  exact (regsOk_terminating_iff rfl).mpr ⟨hrun, by simp, ⟨hbus, hsink, by simp⟩, ht0n⟩

theorem regsOk_busReleased (h : RegsOk p r) (hst : r.st = 5#3) (hph : r.ph = 2#4) :
    RegsOk p { r with busOwned := false, st := 6#3, ph := 0#4 } := by
  obtain ⟨hrun, -, ⟨-, hsink, hact⟩, ht0n⟩ := (regsOk_terminating_iff hst).mp h
  exact regsOk_done rfl rfl hrun ⟨rfl, by simpa [hph] using hsink, by simpa [hph] using hact⟩ ht0n

/-- R250: the failed close has closed the sink; the actuator is released in ABORTED if it is owned. -/
theorem regsOk_closeFailed {s : State} (h : RegsOk p s.regs) (hst : s.regs.st = 5#3) :
    RegsOk p { (abort .sinkWriteFailure 5#3 0#4 0#8 0#16 0#16 1#4 s).regs with sinkOpen := false } := by
  obtain ⟨⟨-, -, hwidths, hcounted⟩, -, ⟨-, -, hact⟩, -⟩ := (regsOk_terminating_iff hst).mp h
  exact (regsOk_aborted_iff rfl).mpr
    ⟨.inr (.inr (.inr (.inl rfl))), hwidths, hcounted, by simp, fun _ => rfl, by simp,
      by simp, fun hoff => hact.trans (by rw [show s.regs.cfgAct = false from hoff, Bool.false_and])⟩

/-- R261, R264: the codes that a step records. -/
theorem RunError.code_cases {e : RunError} (he : e ≠ .initializationOrderViolation) :
    e.code = 1#3 ∨ e.code = 2#3 ∨ e.code = 4#3 ∨ e.code = 5#3 ∨ e.code = 6#3 := by
  cases e with
  | initializationOrderViolation => exact absurd rfl he
  | ioFailure | identityMismatch | configValidationError | sinkWriteFailure | pollTimeout => decide

/-- R280: ABORTED is entered with everything still owned that was owned. -/
theorem regsOk_abort {s : State} (h : RegsOk p s.regs) (hst : s.regs.st ∈ [1#3, 2#3, 3#3, 4#3]) {e : RunError}
    (he : e ≠ .initializationOrderViolation) (st : StCode) (ph : Phase) (a : Addr) (x v : Word16) :
    RegsOk p (abort e st ph a x v 0#4 s).regs :=
  (regsOk_aborted_iff rfl).mpr
    ⟨RunError.code_cases he, h.widths, h.counted, by simp, (absurd rfl ·), by simp,
      by simp, fun hoff => (h.actOwned_eq hst).trans hoff⟩

theorem regsOk_abortClosed (h : RegsOk p r) (hst : r.st = 7#3) :
    RegsOk p { r with sinkOpen := false, st := 7#3, ph := 1#4 } := by
  obtain ⟨herr, hwidths, hcounted, -, -, -, -, hact⟩ := (regsOk_aborted_iff hst).mp h
  exact (regsOk_aborted_iff rfl).mpr
    ⟨herr, hwidths, hcounted, by simp, fun _ => rfl, by simp, by simp, hact⟩

theorem regsOk_abortActuatorReleased (h : RegsOk p r) (hst : r.st = 7#3) (hph : r.ph = 1#4) :
    RegsOk p { r with actOwned := false, st := 7#3, ph := 2#4 } := by
  obtain ⟨herr, hwidths, hcounted, -, hsink, -⟩ := (regsOk_aborted_iff hst).mp h
  rw [hph] at hsink
  exact (regsOk_aborted_iff rfl).mpr
    ⟨herr, hwidths, hcounted, by simp, fun _ => hsink (by decide), fun _ => rfl, by simp, fun _ => rfl⟩

theorem regsOk_abortBusReleased (h : RegsOk p r) (hst : r.st = 7#3) (hph : r.ph = 2#4) :
    RegsOk p { r with busOwned := false, st := 7#3, ph := 3#4 } := by
  obtain ⟨herr, hwidths, hcounted, -, hsink, hact, -, hoff⟩ := (regsOk_aborted_iff hst).mp h
  rw [hph] at hsink hact
  exact (regsOk_aborted_iff rfl).mpr
    ⟨herr, hwidths, hcounted, by simp, fun _ => hsink (by decide), fun _ => hact (by decide), fun _ => rfl, hoff⟩

end

/-! ## Every edge, every step, every run -/

/-- Every edge of R259 keeps the registers' part of the invariant. -/
theorem RegsStep.regsOk {s : State} {r : Regs} (hstep : RegsStep s r) (h : RegsOk s.params s.regs) :
    RegsOk s.params r := by
  cases hstep with
  | waited => exact h
  | started hidle hvalid => exact regsOk_runStart h hidle hvalid
  | rejected hidle => exact regsOk_rejected h hidle
  | timeCaptured t hst hph ht => exact regsOk_timeCaptured h hst hph ht
  | busOpened hst hph => exact regsOk_busOpened h hst hph
  | sinkOpened hst hph => exact regsOk_sinkOpened h hst hph
  | entryWritten hst hlo hhi => exact regsOk_entryWritten h hst hlo hhi
  | identified hst hph => exact regsOk_identified h hst hph
  | aborted hst he => exact regsOk_abort h hst he _ _ _ _ _
  | stopped hst _ => exact regsOk_stopped h hst
  | polled v hst _ hlimit => exact regsOk_polled h hst hlimit v
  | ready v hst _ => exact regsOk_ready h hst v
  | highRead v hst _ => exact regsOk_highRead h hst v
  | lowRead l hst _ => exact regsOk_lowRead h hst l
  | stamped t hst hph => exact regsOk_stamped h hst hph t
  | skipped hst _ =>
    obtain ⟨hsum, -⟩ := h.counted
    exact regsOk_advanceRegs h hst (by rw [h.succCnt_eq hst (by omega)]; omega)
  | emitted hst _ =>
    obtain ⟨hsum, -⟩ := h.counted
    exact regsOk_advanceRegs h hst (by rw [h.succCnt_eq hst (by omega)]; omega)
  | sent hst _ hlimit => exact regsOk_sent h hst hlimit
  | closed hst hph => exact regsOk_closed h hst hph
  | closeFailed hst _ => exact regsOk_closeFailed h hst
  | actuatorReleased hst hph => exact regsOk_actuatorReleased h hst hph
  | busReleased hst hph => exact regsOk_busReleased h hst hph
  | abortClosed hst _ => exact regsOk_abortClosed h hst
  | abortActuatorReleased hst hph => exact regsOk_abortActuatorReleased h hst hph
  | abortBusReleased hst hph => exact regsOk_abortBusReleased h hst hph

/-- The reset step leads to the invariant from wherever it is taken (R310, R311). -/
theorem inv_resetStep {s : State} (hlegal : paramsLegal s.params = true) (hmemory : s.env.regs.wf) :
    Inv (resetStep s) := by
  refine inv_of_controlReset hlegal hmemory (by simp [ControlReset]) ?_ ?_
  · rw [resetStep_regs_t0s]
    exact narrow_lt _ _
  · rw [resetStep_regs_tss]
    exact narrow_lt _ _

/-- The host's next levels do not enter the invariant. -/
theorem inv_tick {s : State} (h : Inv s) : Inv s.tick := by
  obtain ⟨hlegal, hmemory, hregs⟩ := inv_iff.mp h
  exact inv_iff.mpr ⟨hlegal, hmemory, hregs⟩

/-- A step keeps the invariant: the reset step leads to it from anywhere, a handler's edge keeps it, and a driver
operation leaves the registers alone. -/
theorem inv_of_step {s t : State} (hs : Inv s) (h : step s = .next t) : Inv t := by
  obtain ⟨hlegal, hmemory, hregs⟩ := inv_iff.mp hs
  have hparams : t.params = s.params := parametersNeverChange s t h
  obtain ⟨-, rfl⟩ | ⟨-, hkeeps, hstep⟩ := step_effect_cases h
  · exact inv_tick (inv_resetStep hlegal hmemory)
  · have hregs' : RegsOk s.params t.regs := by
      obtain ⟨-, hedge⟩ | ⟨-, -, hsame⟩ := hstep
      · exact hedge.regsOk (s := s.begin) hregs
      · exact hsame ▸ hregs
    exact inv_iff.mpr ⟨hparams ▸ hlegal, hkeeps hmemory, hparams ▸ hregs'⟩

/-- A run from a state that has the invariant stays inside it. -/
theorem inv_of_run {n : Nat} {s t : State} (hs : Inv s) (h : Host.Core.run Sys2Proof.core n s = .next t) : Inv t := by
  induction n generalizing s with
  | zero =>
    cases h
    exact hs
  | succ n ih =>
    obtain ⟨u, hu, hrun⟩ := run_succ_cases h
    exact ih (inv_of_step hs hu) hrun

/-- Settles O46, by the edge of R259 that the step takes. -/
theorem everyStepKeepsTheInvariant : Obligations.EveryStepKeepsTheInvariant :=
  fun _ _ hs h => inv_of_step hs h

/-- Settles O48, by induction on the number of steps from the registers of R50. -/
theorem everyRunStaysInTheInvariant : Obligations.EveryRunStaysInTheInvariant := by
  intro n p h sched e d t hlegal hmemory hrun
  have hreset : ControlReset Regs.reset := by decide
  refine inv_of_run ?_ hrun
  exact inv_of_controlReset hlegal hmemory hreset (Nat.two_pow_pos _) (Nat.two_pow_pos _)

end Sys2Proof.Machine
end

section
/-! PROOFS. The other statements of 10_state.md: the configuration, the error flags, the command vector and the reset
state. -/

namespace Sys2Proof.Machine
open Sys2Proof.Safety

/-! ## The configuration -/

/-- The configuration registers of R41 are the same. -/
abbrev SameConfig (r r' : Regs) : Prop :=
  r'.cfgCh = r.cfgCh ∧ r'.cfgNsamp = r.cfgNsamp ∧ r'.cfgStep = r.cfgStep ∧ r'.cfgInc = r.cfgInc ∧ r'.cfgLim = r.cfgLim
    ∧ r'.cfgAct = r.cfgAct

/-- The end of an iteration changes no configuration register. -/
theorem sameConfig_advanceRegs (w : Nat) (r : Regs) : SameConfig r (advanceRegs w r) := by
  obtain ⟨-, h⟩ | ⟨-, -, -, h⟩ | ⟨-, -, h⟩ := advanceRegs_cases w r <;> rw [h] <;> exact ⟨rfl, rfl, rfl, rfl, rfl, rfl⟩

/-- R41: of all edges only the two that take `start` in IDLE change the configuration. -/
theorem RegsStep.sameConfig {s : State} {r : Regs} (hstep : RegsStep s r) (hidle : ¬ AtIdle s.regs) :
    SameConfig s.regs r := by
  cases hstep with
  | started h | rejected h => exact absurd h hidle
  | skipped | emitted => exact sameConfig_advanceRegs _ _
  | waited | timeCaptured | busOpened | sinkOpened | entryWritten | identified | aborted | stopped | polled | ready
  | highRead | lowRead | stamped | sent | closed | closeFailed | actuatorReleased | busReleased | abortClosed
  | abortActuatorReleased | abortBusReleased => exact ⟨rfl, rfl, rfl, rfl, rfl, rfl⟩

/-- Settles O52: a handler's edge outside IDLE keeps the configuration, and in IDLE a program that has words lets no
handler run. -/
theorem configurationIsConstantDuringARun : Obligations.ConfigurationIsConstantDuringARun := by
  intro s t hr hbusy h
  obtain ⟨hr', -⟩ | ⟨-, -, ⟨hn, hedge⟩ | ⟨-, -, hsame⟩⟩ := step_effect_cases h
  · rw [hr] at hr'
    cases hr'
  · have hidle : ¬ AtIdle s.regs := hbusy.elim (fun hst hi => hst hi.1) hn.resolve_left
    exact hedge.sameConfig (s := s.begin) hidle
  · rw [hsame]
    exact ⟨rfl, rfl, rfl, rfl, rfl, rfl⟩

/-! ## The error flags -/

/-- The registers `r` with other flags: HI, whose top nibble they are, EF and EFS. -/
def Regs.withFlags (hi : Word16) (ef efs : Nibble) (r : Regs) : Regs := { r with hi := hi, ef := ef, efs := efs }

/-- R225: the end of an iteration does not look at the flags. -/
theorem advanceRegs_withFlags (w : Nat) (hi : Word16) (ef efs : Nibble) (r : Regs) :
    advanceRegs w (r.withFlags hi ef efs) = (advanceRegs w r).withFlags hi ef efs := by
  have hsct : nextSct w (r.withFlags hi ef efs) = nextSct w r := rfl
  simp only [advanceRegs, hsct, apply_ite (Regs.withFlags hi ef efs)]
  rfl

/-- R126: the magnitude takes the low 12 bits of the high register, below the flags. -/
theorem assembleMag_flags (flags : Nibble) (h l : Word16) :
    assembleMag (flags ++ h.extractLsb' 0 12) l = assembleMag h l := by
  have hlow : (flags ++ h.extractLsb' 0 12).extractLsb' 0 12 = h.extractLsb' 0 12 := BitVec.extractLsb'_append_eq_right
  rw [assembleMag, assembleMag, hlow]

/-- A counter of W_CNT bits counts modulo 2^W_CNT (R37). -/
theorem succCnt_eq_mod (w c : Nat) : succCnt w c = (c + 1) % 2 ^ w := by
  unfold succCnt narrow
  norm_cast

/-- The iteration count after the end of an iteration (R230). -/
theorem advanceRegs_nit (w : Nat) (r : Regs) : (advanceRegs w r).nit = succCnt w r.nit := by
  obtain ⟨-, h⟩ | ⟨-, -, -, h⟩ | ⟨-, -, h⟩ := advanceRegs_cases w r <;> rw [h]

/-- The end of an iteration counts no sample by itself (R230). -/
theorem advanceRegs_nem (w : Nat) (r : Regs) : (advanceRegs w r).nem = r.nem := by
  obtain ⟨-, h⟩ | ⟨-, -, -, h⟩ | ⟨-, -, h⟩ := advanceRegs_cases w r <;> rw [h]

/-- Registers that differ in the flags alone are the same when the flags are made the same. -/
theorem eq_of_withFlags {r r' : Regs} {hi : Word16} {ef efs : Nibble} (h : r' = r.withFlags hi ef efs) :
    { r' with hi := r.hi, ef := r.ef, efs := r.efs } = r := by
  subst h
  rfl

section
variable {s : State}

/-- R222: the low read with its answer `Ok`. -/
theorem sampleLow_of_ok {l : Word16} (h : s.memRead s.params.aDataLsb = .ok l) :
    sampleLow s = { s with
      env := s.env.afterRead s.params.aDataLsb
      regs := { s.regs with
        lo := l, ef := errorFlags s.regs.hi, mag := assembleMag s.regs.hi l,
        efs := stickyFlags s.regs.efs (errorFlags s.regs.hi), st := 3#3, ph := 2#4 }
      diag := s.diag ++ warnEvents (errorFlags s.regs.hi) } := by
  rw [sampleLow, h]
  rfl

/-- R222, R226: the low read with its answer `Fail`. -/
theorem sampleLow_of_fail (h : s.memRead s.params.aDataLsb = .fail) :
    sampleLow s = skip s.params.aDataLsb (s.afterMemRead s.params.aDataLsb) := by
  rw [sampleLow, h]

/-- R224: whatever is answered, the emission is the one transaction and raises no event. -/
theorem sampleEmit_env_diag (s : State) :
    (sampleEmit s).env = s.env.afterEmit (sampleRecord s.regs) ∧ (sampleEmit s).diag = s.diag := by
  unfold sampleEmit
  dsimp only
  split <;> exact ⟨rfl, rfl⟩

/-- R224: an emission answered `Ok` is counted and ends the iteration. -/
theorem sampleEmit_regs_of_ok (h : s.env.emitAnswer (sampleRecord s.regs) = .ok) :
    (sampleEmit s).regs = advanceRegs s.params.wCnt { s.regs with nem := succCnt s.params.wCnt s.regs.nem } := by
  rw [sampleEmit, h]
  rfl

/-- R224: an emission answered `Fail` is fatal. -/
theorem sampleEmit_regs_of_fail (h : s.env.emitAnswer (sampleRecord s.regs) = .fail) :
    (sampleEmit s).regs = (abortPlain .sinkWriteFailure 3#3 3#4 s).regs := by
  rw [sampleEmit, h]
  rfl

end

/-- After emitting another record that gets the same answer, the environment differs in the record of transactions
alone. -/
theorem afterEmit_of_same_answer {e : Env} {r r' : Sample} (h : e.emitAnswer r' = e.emitAnswer r) :
    e.afterEmit r' = { e.afterEmit r with trace := e.trace ++ [.sinkEmit r' (e.emitAnswer r)] } := by
  rw [Env.afterEmit, h]
  rfl

/-- Settles O58: in each phase the two runs take the same branch, since the answers do not depend on the flags, and the
registers that the branch leaves differ in the flags alone. -/
theorem errorFlagsNeverSteer : Obligations.ErrorFlagsNeverSteer := by
  intro s flags ef efs s' alike r
  refine ⟨⟨sampleLow s, sampleLow s', rfl, rfl, ?_⟩, ⟨sampleTime s, sampleTime s', rfl, rfl, rfl, rfl, rfl⟩,
    fun hanswer => ⟨sampleEmit s, sampleEmit s', rfl, rfl, ?_⟩⟩
  · cases hread : s.memRead s.params.aDataLsb with
    | ok l =>
      rw [sampleLow_of_ok hread, sampleLow_of_ok (s := s') hread]
      refine ⟨rfl, ?_⟩
      simp only [alike, s', assembleMag_flags]
    | fail =>
      rw [sampleLow_of_fail hread, sampleLow_of_fail (s := s') hread]
      exact ⟨rfl, eq_of_withFlags (advanceRegs_withFlags _ _ ef efs
        { s.regs with nsk := succCnt s.params.wCnt s.regs.nsk })⟩
  · obtain ⟨henv, hdiag⟩ := sampleEmit_env_diag s
    obtain ⟨henv', hdiag'⟩ := sampleEmit_env_diag s'
    have hsame : s'.env.afterEmit (sampleRecord s'.regs)
        = { s.env.afterEmit r with trace := s.env.trace ++ [.sinkEmit { r with ef := ef } (s.env.emitAnswer r)] } :=
      afterEmit_of_same_answer hanswer
    refine ⟨?_, hdiag'.trans hdiag.symm, by rw [henv]; rfl, by rw [henv', hsame, henv]; rfl, fun hok => ?_⟩
    · cases hemit : s.env.emitAnswer r with
      | ok =>
        exact eq_of_withFlags ((sampleEmit_regs_of_ok (s := s') (hanswer.trans hemit)).trans
          ((advanceRegs_withFlags _ _ ef efs { s.regs with nem := succCnt s.params.wCnt s.regs.nem }).trans
            (congrArg _ (sampleEmit_regs_of_ok hemit).symm)))
      | fail =>
        simp only [alike, sampleEmit_regs_of_fail hemit, sampleEmit_regs_of_fail (s := s') (hanswer.trans hemit)]
        rfl
    · rw [sampleEmit_regs_of_ok (s := s') (hanswer.trans hok), advanceRegs_nem, advanceRegs_nit, succCnt_eq_mod,
        succCnt_eq_mod]
      exact ⟨rfl, rfl⟩

/-! ## The command vector and the reset state -/

/-- Settles O33: the vector maps the derivation over the element numbers, and the broadcast derivation is constant. -/
theorem commandVectorHasOneElementPerChannel : Obligations.CommandVectorHasOneElementPerChannel := by
  intro p c
  refine ⟨by simp [commandVector], rfl, fun i hi => by simp [commandVector, hi], fun hbroadcast => ?_⟩
  have helement : (fun i => cmdElementOf p.cmdDerive i c) = fun _ => c := by rw [hbroadcast]; rfl
  rw [commandVector, helement, List.map_const', List.length_range]

/-- Settles O41, by evaluating the one state. -/
theorem resetStateHasTheSpecifiedValues : Obligations.ResetStateHasTheSpecifiedValues :=
  ⟨by decide, rfl, rfl, rfl⟩

end Sys2Proof.Machine
end

section
/-! PROOFS. The order of the bytes on the wire (R81, R84), the record of transactions (R105, R110), and that a listed
program counter value has a step (R95, R259). -/

namespace Sys2Proof.Machine
open Sys2Proof.Safety

/-! ## The wire bytes -/

@[simp] theorem wireFirst_rawOfWire (first second : Byte) : wireFirst (rawOfWire first second) = first :=
  BitVec.extractLsb'_append_eq_right

@[simp] theorem wireSecond_rawOfWire (first second : Byte) : wireSecond (rawOfWire first second) = second :=
  BitVec.extractLsb'_append_eq_left

/-- The raw word of a logical value has the value's two bytes in the other order on the wire. -/
theorem swap16_eq_rawOfWire (v : Word16) : swap16 v = rawOfWire (wireSecond v) (wireFirst v) := rfl

/-- Settles O7: the bytes on the wire of the swapped word are the value's own two, the second one first. -/
theorem wireOrderIsBigEndian : Obligations.WireOrderIsBigEndian := by
  intro v
  rw [swap16_eq_rawOfWire, wireFirst_rawOfWire, wireSecond_rawOfWire]
  exact ⟨rfl, rfl⟩

/-! ## The record of transactions -/

section
variable {s u : State}

/-- A handler adds at most one transaction to the record. -/
theorem HandlerFrame.trace_prefix {st : StCode} {ph : Phase} (h : HandlerFrame st ph s u) :
    s.env.trace <+: u.env.trace := by
  obtain htrace | ⟨x, htrace, -⟩ := h.transaction
  · exact htrace ▸ List.prefix_rfl
  · exact ⟨[x], htrace.symm⟩

theorem driverRead_trace_prefix (a : Addr) (s : State) : s.env.trace <+: (driverRead a s).env.trace := by
  unfold driverRead
  split <;> exact List.prefix_append ..

theorem driverWrite_trace_prefix (a : Addr) (d : Word16) (s : State) :
    s.env.trace <+: (driverWrite a d s).env.trace := by
  unfold driverWrite
  split <;> exact List.prefix_append ..

/-- INIT adds its writes up to the first that fails (R167). -/
theorem driverInit_trace_prefix (tbl : List (Addr × Word16)) (k : Nat) (s : State) :
    s.env.trace <+: (driverInit tbl k s).env.trace := by
  obtain ⟨-, -, -, -, -, -, -, -, ⟨-, htrace⟩ | ⟨_, _, -, -, htrace⟩⟩ := driverInit_cases tbl k s
  · exact ⟨_, htrace.symm⟩
  · exact ⟨_, by rw [htrace, List.append_assoc]⟩

theorem driverReadLow_trace_prefix (h : Word16) (s : State) : s.env.trace <+: (driverReadLow h s).env.trace := by
  unfold driverReadLow
  split <;> exact List.prefix_append ..

/-- RDCH adds the high read, and the low read when the high one succeeded (R170). -/
theorem driverReadChannel_trace_prefix (s : State) : s.env.trace <+: (driverReadChannel s).env.trace := by
  have hhigh : s.env.trace <+: (s.afterMemRead s.params.aDataMsb).env.trace := List.prefix_append ..
  unfold driverReadChannel
  split
  · exact hhigh.trans (driverReadLow_trace_prefix ..)
  · exact hhigh

theorem driverVerify_trace_prefix (d : Word16) (s : State) : s.env.trace <+: (driverVerify d s).env.trace := by
  unfold driverVerify
  split <;> exact List.prefix_append ..

/-- No instruction withdraws, changes or reorders a transaction, whichever of the fourteen it is. -/
theorem exec_trace_prefix {i : Instr} (h : exec i s = .next u) : s.env.trace <+: u.env.trace := by
  cases i with
  | rdreg a =>
    simp only [exec, execRdreg] at h
    split at h <;> cases h
    exact driverRead_trace_prefix a s
  | wrreg a d =>
    simp only [exec, execWrreg] at h
    split at h <;> cases h
    exact driverWrite_trace_prefix a d s
  | init ch =>
    simp only [exec, execInit] at h
    split at h <;> cases h
    exact driverInit_trace_prefix _ 0 s
  | rdch ch =>
    simp only [exec, execRdch] at h
    split at h <;> cases h
    exact driverReadChannel_trace_prefix s
  | verid d =>
    cases h
    exact driverVerify_trace_prefix d s
  | swap16 d =>
    cases h
    exact List.prefix_rfl
  | stIdle ph => exact (execStIdle_frame h).trace_prefix
  | stInitializing ph => exact (execStInitializing_frame h).trace_prefix
  | stPolling ph => exact (execStPolling_frame h).trace_prefix
  | stSampling ph => exact (execStSampling_frame h).trace_prefix
  | stActuating ph => exact (execStActuating_frame h).trace_prefix
  | stTerminating ph => exact (execStTerminating_frame h).trace_prefix
  | stDone ph => exact (execStDone_frame h).trace_prefix
  | stAborted ph => exact (execStAborted_frame h).trace_prefix

/-- The record only grows at its end, at a reset step too. -/
theorem step_trace_prefix {t : State} (h : step s = .next t) : s.env.trace <+: t.env.trace := by
  obtain ⟨-, ⟨-, rfl⟩ | ⟨-, i, u, -, he, rfl⟩⟩ := step_cases h
  · exact List.prefix_rfl
  · exact exec_trace_prefix (s := s.begin) (u := u) he

end

/-- Settles O43: what the step adds to the record stands after all that was performed before. -/
theorem performedTransactionsStay : Obligations.PerformedTransactionsStay := by
  intro s t h
  obtain ⟨l, hl⟩ := step_trace_prefix h
  exact ⟨l, hl.symm⟩

/-! ## A listed program counter value has a step -/

section
variable {ph : Phase}

theorem execStInitializing_answers (h : ph ≤ 9#4) (s : State) : ∃ u, execStInitializing ph s = .next u := by
  unfold execStInitializing
  split
  case h_11 =>
    simp only [imp_false] at *
    bv_omega
  all_goals exact ⟨_, rfl⟩

theorem execStSampling_answers (h : ph ≤ 3#4) (s : State) : ∃ u, execStSampling ph s = .next u := by
  unfold execStSampling
  split
  case h_5 =>
    simp only [imp_false] at *
    bv_omega
  all_goals exact ⟨_, rfl⟩

theorem execStTerminating_answers (h : ph ≤ 2#4) (s : State) : ∃ u, execStTerminating ph s = .next u := by
  unfold execStTerminating
  split
  case h_4 =>
    simp only [imp_false] at *
    bv_omega
  all_goals exact ⟨_, rfl⟩

theorem execStAborted_answers (h : ph ≤ 3#4) (s : State) : ∃ u, execStAborted ph s = .next u := by
  unfold execStAborted
  split
  case h_5 =>
    simp only [imp_false] at *
    bv_omega
  all_goals exact ⟨_, rfl⟩

/-- The handler of a listed program counter value answers a next state, in every state of the environment: it has a
meaning for either answer of its transaction (R95). -/
theorem exec_handler_answers {st : StCode} (h : pcListed st ph = true) (s : State) :
    ∃ u, exec (decodeFsm (pcCode st ph)) s = .next u := by
  rw [decodeFsm_pcCode]
  split
  case h_1 hst =>
    obtain rfl := BitVec.eq_of_toNat_eq (y := 0#3) hst
    obtain rfl := eq_of_beq (b := 0#4) h
    exact ⟨_, rfl⟩
  case h_2 hst =>
    obtain rfl := BitVec.eq_of_toNat_eq (y := 1#3) hst
    exact execStInitializing_answers (of_decide_eq_true h) s
  case h_3 hst =>
    obtain rfl := BitVec.eq_of_toNat_eq (y := 2#3) hst
    obtain rfl := eq_of_beq (b := 0#4) h
    exact ⟨_, rfl⟩
  case h_4 hst =>
    obtain rfl := BitVec.eq_of_toNat_eq (y := 3#3) hst
    exact execStSampling_answers (of_decide_eq_true h) s
  case h_5 hst =>
    obtain rfl := BitVec.eq_of_toNat_eq (y := 4#3) hst
    obtain rfl := eq_of_beq (b := 0#4) h
    exact ⟨_, rfl⟩
  case h_6 hst =>
    obtain rfl := BitVec.eq_of_toNat_eq (y := 5#3) hst
    exact execStTerminating_answers (of_decide_eq_true h) s
  case h_7 hst =>
    obtain rfl := BitVec.eq_of_toNat_eq (y := 6#3) hst
    obtain rfl := eq_of_beq (b := 0#4) h
    exact ⟨_, rfl⟩
  case h_8 =>
    simp only [imp_false] at *
    obtain rfl : st = 7#3 := by bv_omega
    exact execStAborted_answers (of_decide_eq_true h) s

end

/-- Settles O45: the step runs the handler of the listed value, which answers. -/
theorem noListedStateIsStuck : Obligations.NoListedStateIsStuck := by
  rintro s ⟨hp, hr, hn⟩ hlisted
  obtain ⟨u, hu⟩ := exec_handler_answers hlisted s.begin
  exact ⟨_, step_of_exec hp hr (State.fetch_of_handler hn) hu⟩

end Sys2Proof.Machine
end

section
/-! PROOFS. The encoding (R140 to R147): the four fields of a DRV word, the decoder as the inverse of the encoder in
both code spaces, and what is refused: illegal DRV words and operands (R145) and phases that R259 does not list (R146). -/

namespace Sys2Proof.Machine
open Sys2Proof.Safety

/-! ## The four fields of a DRV word (R140) -/

section
variable (r : BitVec 5) (op : BitVec 3) (a : BitVec 8) (d : Word16)

theorem drvReserved_fields : drvReserved (r ++ op ++ a ++ d) = r := by
  rw [drvReserved, BitVec.extractLsb'_append_eq_of_le (by decide), BitVec.extractLsb'_append_eq_of_le (by decide)]
  exact BitVec.extractLsb'_append_eq_left

theorem drvOp_fields : drvOp (r ++ op ++ a ++ d) = op := by
  rw [drvOp, BitVec.extractLsb'_append_eq_of_le (by decide), BitVec.extractLsb'_append_eq_of_le (by decide)]
  exact BitVec.extractLsb'_append_eq_right

theorem drvA_fields : drvA (r ++ op ++ a ++ d) = a := by
  rw [drvA, BitVec.extractLsb'_append_eq_of_le (by decide)]
  exact BitVec.extractLsb'_append_eq_right

theorem drvD_fields : drvD (r ++ op ++ a ++ d) = d :=
  BitVec.extractLsb'_append_eq_right

end

/-- The four fields cover the word. -/
theorem fields_append (w : DrvWord) : drvReserved w ++ drvOp w ++ drvA w ++ drvD w = w := by
  simp only [drvReserved, drvOp, drvA, drvD, BitVec.extractLsb'_append_extractLsb'_eq_extractLsb']
  exact BitVec.extractLsb'_eq_self

/-- A word is given by its four fields, so words are equal field by field. -/
theorem fields_eq_iff {r : BitVec 5} {op : BitVec 3} {a : BitVec 8} {d : Word16} {w : DrvWord} :
    r ++ op ++ a ++ d = w ↔ drvReserved w = r ∧ drvOp w = op ∧ drvA w = a ∧ drvD w = d := by
  constructor
  · rintro rfl
    exact ⟨drvReserved_fields .., drvOp_fields .., drvA_fields .., drvD_fields ..⟩
  · rintro ⟨rfl, rfl, rfl, rfl⟩
    exact fields_append w

section
variable (op : BitVec 3) (a : BitVec 8) (d : Word16)

@[simp] theorem drvReserved_drvWord : drvReserved (drvWord op a d) = 0#5 := drvReserved_fields ..
@[simp] theorem drvOp_drvWord : drvOp (drvWord op a d) = op := drvOp_fields ..
@[simp] theorem drvA_drvWord : drvA (drvWord op a d) = a := drvA_fields ..
@[simp] theorem drvD_drvWord : drvD (drvWord op a d) = d := drvD_fields ..

end

theorem drvWord_eq_iff {op : BitVec 3} {a : BitVec 8} {d : Word16} {w : DrvWord} :
    drvWord op a d = w ↔ drvReserved w = 0#5 ∧ drvOp w = op ∧ drvA w = a ∧ drvD w = d := fields_eq_iff

/-- A channel operation's a[7:2] and a[1:0] make up the field a. -/
theorem drvAboveChannel_append_drvChannel (w : DrvWord) : drvAboveChannel w ++ drvChannel w = drvA w :=
  BitVec.extractLsb'_append_extractLsb'_eq_extractLsb' rfl

/-! ## The decoder inverts the encoder -/

/-- The field a is 0 when both of its parts are. -/
theorem drvA_eq_zero_iff (w : DrvWord) : drvA w = 0#8 ↔ drvAboveChannel w = 0#6 ∧ drvChannel w = 0#2 := by
  have happend := drvAboveChannel_append_drvChannel w
  constructor
  · intro ha
    have habove : drvAboveChannel w = (drvA w).extractLsb' 2 6 := by rw [← happend, BitVec.extractLsb'_append_eq_left]
    have hch : drvChannel w = (drvA w).extractLsb' 0 2 := by rw [← happend, BitVec.extractLsb'_append_eq_right]
    rw [habove, hch, ha]
    exact ⟨rfl, rfl⟩
  · rintro ⟨habove, hch⟩
    rw [← happend, habove, hch]
    rfl

/-- INIT and RDCH decode exactly with channel 0 and every other bit of a and d at 0 (R145 c, d). -/
theorem decodeChannelOp_eq_ok_iff {w : DrvWord} {make : BitVec 2 → Instr} {i : Instr} :
    decodeChannelOp w make = .ok i ↔ drvA w = 0#8 ∧ drvD w = 0#16 ∧ make 0#2 = i := by
  rw [drvA_eq_zero_iff]
  unfold decodeChannelOp
  split_ifs with hfield hch
  · simp only [false_iff]
    tauto
  · simp only [false_iff]
    tauto
  · obtain ⟨hd, habove⟩ := not_or.mp hfield
    simp [not_not.mp hd, not_not.mp habove, not_not.mp hch]

/-- A DRV word that decodes has no reserved bit set, and its op, a and d are those of the instruction's row (R143). -/
theorem encode_of_decodeDrv {w : DrvWord} {i : Instr} (h : decodeDrv w = .ok i) :
    i.encodable = true ∧ encode i = .drv w := by
  unfold decodeDrv at h
  split at h
  case isTrue => cases h
  case isFalse hres =>
    have hword {op : BitVec 3} {a : BitVec 8} {d : Word16} (hop : (drvOp w).toNat = op.toNat) (ha : drvA w = a)
        (hd : drvD w = d) : Code.drv (drvWord op a d) = .drv w :=
      congrArg Code.drv (drvWord_eq_iff.mpr ⟨not_not.mp hres, BitVec.eq_of_toNat_eq hop, ha, hd⟩)
    split at h
    case h_1 hop =>
      split_ifs at h with hd
      cases h
      exact ⟨rfl, hword hop rfl (not_not.mp hd)⟩
    case h_2 hop =>
      cases h
      exact ⟨rfl, hword hop rfl rfl⟩
    case h_3 hop | h_4 hop =>
      obtain ⟨ha, hd, rfl⟩ := decodeChannelOp_eq_ok_iff.mp h
      exact ⟨rfl, hword hop ha hd⟩
    case h_5 hop | h_6 hop =>
      split_ifs at h with ha
      cases h
      exact ⟨rfl, hword hop (not_not.mp ha) rfl⟩
    case h_7 => cases h

/-- A DRV word decodes to an instruction exactly when it is the encoding of that instruction. -/
theorem decodeDrv_eq_ok_iff {w : DrvWord} {i : Instr} :
    decodeDrv w = .ok i ↔ i.encodable = true ∧ encode i = .drv w := by
  refine ⟨encode_of_decodeDrv, fun ⟨hi, hw⟩ => ?_⟩
  cases i with
  | rdreg a | wrreg a d | verid d | swap16 d =>
    cases hw
    simp [decodeDrv]
  | init ch | rdch ch =>
    cases hw
    obtain rfl : ch = 0#2 := eq_of_beq hi
    rfl
  | stIdle ph | stInitializing ph | stPolling ph | stSampling ph | stActuating ph | stTerminating ph | stDone ph
  | stAborted ph => cases hw

/-- Every code is made of its state and its phase. -/
theorem pcCode_fsmState_fsmPhase (c : PcCode) : pcCode (fsmState c) (fsmPhase c) = c :=
  BitVec.extractLsb'_append_extractLsb' (w := 3) (len := 4)

/-- The handler that (ST, PH) selects is encoded as (ST, PH), for every state and phase (R141). -/
theorem encode_decodeFsm_pcCode (st : StCode) (ph : Phase) :
    (decodeFsm (pcCode st ph)).encodable = true ∧ encode (decodeFsm (pcCode st ph)) = .fsm (pcCode st ph) := by
  rw [decodeFsm_pcCode]
  split
  case h_1 hst => exact BitVec.eq_of_toNat_eq (y := 0#3) hst ▸ ⟨rfl, rfl⟩
  case h_2 hst => exact BitVec.eq_of_toNat_eq (y := 1#3) hst ▸ ⟨rfl, rfl⟩
  case h_3 hst => exact BitVec.eq_of_toNat_eq (y := 2#3) hst ▸ ⟨rfl, rfl⟩
  case h_4 hst => exact BitVec.eq_of_toNat_eq (y := 3#3) hst ▸ ⟨rfl, rfl⟩
  case h_5 hst => exact BitVec.eq_of_toNat_eq (y := 4#3) hst ▸ ⟨rfl, rfl⟩
  case h_6 hst => exact BitVec.eq_of_toNat_eq (y := 5#3) hst ▸ ⟨rfl, rfl⟩
  case h_7 hst => exact BitVec.eq_of_toNat_eq (y := 6#3) hst ▸ ⟨rfl, rfl⟩
  case h_8 =>
    simp only [imp_false] at *
    obtain rfl : st = 7#3 := by bv_omega
    exact ⟨rfl, rfl⟩

/-- Settles O1: a driver operation by its DRV word, a state handler by its (ST, PH). -/
theorem decodeOfEncodeIsIdentity : Obligations.DecodeOfEncodeIsIdentity := by
  intro i hi
  cases i with
  | rdreg a | wrreg a d | init ch | rdch ch | verid d | swap16 d => exact decodeDrv_eq_ok_iff.mpr ⟨hi, rfl⟩
  | stIdle ph | stInitializing ph | stPolling ph | stSampling ph | stActuating ph | stTerminating ph | stDone ph
  | stAborted ph => exact congrArg Except.ok (decodeFsm_pcCode _ ph)

/-- Settles O2, in each of the two code spaces. -/
theorem encodeOfDecodeIsIdentity : Obligations.EncodeOfDecodeIsIdentity := by
  intro c i h
  cases c with
  | drv w => exact encode_of_decodeDrv h
  | fsm c =>
    cases h
    have hc := encode_decodeFsm_pcCode (fsmState c) (fsmPhase c)
    rwa [pcCode_fsmState_fsmPhase] at hc

/-- Bits of a table row that are an encoding of an instruction are read as that instruction. -/
theorem decodeTableWord_of_encode {nbits w : Nat} {i : Instr} (hi : i.encodable = true)
    (hw : tableCode nbits w = some (encode i)) : decodeTableWord nbits w = some i := by
  simp [decodeTableWord, hw, decodeOfEncodeIsIdentity i hi]

/-- Settles O4: each word is the encoding of its instruction. -/
theorem writtenOutWordsDecode : Obligations.WrittenOutWordsDecode :=
  ⟨decodeTableWord_of_encode rfl rfl, decodeTableWord_of_encode rfl rfl, decodeTableWord_of_encode rfl rfl,
    decodeTableWord_of_encode rfl rfl, decodeTableWord_of_encode rfl rfl, decodeTableWord_of_encode rfl rfl,
    decodeTableWord_of_encode rfl rfl, decodeTableWord_of_encode rfl rfl, decodeTableWord_of_encode rfl rfl⟩

/-! ## The rows of the opcode table (R143) -/

/-- A mask that covers the reserved bits and the operation code leaves both and masks a and d apart. -/
theorem and_mask_eq_drvWord_iff {w : DrvWord} {op : BitVec 3} {a ma : BitVec 8} {d md : Word16} :
    w &&& (BitVec.allOnes 5 ++ BitVec.allOnes 3 ++ ma ++ md) = drvWord op a d
      ↔ drvReserved w = 0#5 ∧ drvOp w = op ∧ drvA w &&& ma = a ∧ drvD w &&& md = d := by
  conv_lhs => rw [← fields_append w, Laws.and_fields, BitVec.and_allOnes, BitVec.and_allOnes]
  rw [eq_comm, drvWord_eq_iff, drvReserved_fields, drvOp_fields, drvA_fields, drvD_fields]

/-- The row of WRREG (R143): the reserved bits are 0, the operation code is the row's, a and d are free. -/
theorem and_op_eq_iff (w : DrvWord) (op : BitVec 3) :
    w &&& 0xFF000000#32 = drvWord op 0#8 0#16 ↔ drvReserved w = 0#5 ∧ drvOp w = op :=
  (and_mask_eq_drvWord_iff (ma := 0#8) (md := 0#16)).trans (by simp only [BitVec.and_zero, and_true])

/-- The row of RDREG (R143): d is the row's too. -/
theorem and_opD_eq_iff (w : DrvWord) (op : BitVec 3) (d : Word16) :
    w &&& 0xFF00FFFF#32 = drvWord op 0#8 d ↔ drvReserved w = 0#5 ∧ drvOp w = op ∧ drvD w = d :=
  (and_mask_eq_drvWord_iff (ma := 0#8) (md := BitVec.allOnes 16)).trans
    (by simp only [BitVec.and_zero, BitVec.and_allOnes, true_and])

/-- The rows of VERID and SWAP16 (R143): a is the row's too. -/
theorem and_opA_eq_iff (w : DrvWord) (op : BitVec 3) (a : BitVec 8) :
    w &&& 0xFFFF0000#32 = drvWord op a 0#16 ↔ drvReserved w = 0#5 ∧ drvOp w = op ∧ drvA w = a :=
  (and_mask_eq_drvWord_iff (ma := BitVec.allOnes 8) (md := 0#16)).trans
    (by simp only [BitVec.and_zero, BitVec.and_allOnes, and_true])

/-- The rows of INIT and RDCH (R143): every bit is the row's. -/
theorem and_all_eq_iff (w : DrvWord) (op : BitVec 3) (a : BitVec 8) (d : Word16) :
    w &&& 0xFFFFFFFF#32 = drvWord op a d ↔ drvReserved w = 0#5 ∧ drvOp w = op ∧ drvA w = a ∧ drvD w = d :=
  (and_mask_eq_drvWord_iff (ma := BitVec.allOnes 8) (md := BitVec.allOnes 16)).trans
    (by simp only [BitVec.and_allOnes])

/-- Settles O3: under its mask each row fixes exactly the fields that its operation fixes in the encoding. -/
theorem wordDecodesAsItsTableRow : Obligations.WordDecodesAsItsTableRow := by
  intro w
  -- the right sides become the fields that the encoding of the operation fixes
  simp only [decodeDrv_eq_ok_iff, encode, Code.drv.injEq, drvWord_eq_iff, Instr.encodable, Instr.channelOk, beq_iff_eq,
    true_and, and_true, exists_eq_left, exists_and_left, exists_eq', exists_eq_left']
  exact ⟨and_opD_eq_iff w 1#3 0#16, and_op_eq_iff w 2#3, and_all_eq_iff w 3#3 0#8 0#16,
    and_all_eq_iff w 4#3 0#8 0#16, and_opA_eq_iff w 5#3 0#8, and_opA_eq_iff w 6#3 0#8⟩

/-! ## What is refused (R145) -/

theorem exec_rdreg_of_not_mem {a : Addr} {s : State} (h : a ∉ s.params.regset) :
    exec (.rdreg a) s = .refused (.addressOutsideRegset a) := by
  simp [exec, execRdreg, h]

theorem exec_wrreg_of_not_mem {a : Addr} {d : Word16} {s : State} (h : a ∉ s.params.regset) :
    exec (.wrreg a d) s = .refused (.addressOutsideRegset a) := by
  simp [exec, execWrreg, h]

/-- Settles O15: both operations test the channel before anything else. -/
theorem otherChannelsAreRefused : Obligations.OtherChannelsAreRefused :=
  fun _ _ h => ⟨if_neg h, if_neg h⟩

/-- With legal parameters and `rst` low a step refuses what the fetch refuses. -/
theorem step_of_fetch_error {s : State} {why : Reject} (hp : paramsLegal s.params = true) (hr : s.host.rst = false)
    (hf : s.fetch = .error why) : step s = .refused (.badDescriptor why) := by
  simp [step, hp, hr, hf]

/-- Settles O5: a word that decodes is an encoding, so of the ways to be illegal only the address is left, and that the
operation refuses. -/
theorem illegalDescriptorsAreRefused : Obligations.IllegalDescriptorsAreRefused := by
  intro s w rest hp hr hidle hdrv hbad
  have hf := State.fetch_of_program hidle.1 hidle.2 hdrv
  cases hw : decodeDrv w with
  | error why => exact ⟨_, step_of_fetch_error hp hr (hf.trans hw)⟩
  | ok i =>
    have hstep := step_of_fetch hp hr (hf.trans hw)
    obtain ⟨hi, henc⟩ := encode_of_decodeDrv hw
    change drvOp w = 0#3 ∨ drvOp w = 7#3 ∨ drvReserved w ≠ 0#5 ∨ drvOp w = 1#3 ∧ drvD w ≠ 0#16
      ∨ (drvOp w = 3#3 ∨ drvOp w = 4#3) ∧ (drvD w ≠ 0#16 ∨ drvA w ≠ 0#8)
      ∨ (drvOp w = 5#3 ∨ drvOp w = 6#3) ∧ drvA w ≠ 0#8
      ∨ (drvOp w = 1#3 ∨ drvOp w = 2#3) ∧ drvA w ∉ s.params.regset at hbad
    cases i with
    | rdreg a =>
      cases henc
      have ha : a ∉ s.begin.params.regset := by simpa using hbad
      exact ⟨_, by rw [hstep, exec_rdreg_of_not_mem ha]; rfl⟩
    | wrreg a d =>
      cases henc
      have ha : a ∉ s.begin.params.regset := by simpa using hbad
      exact ⟨_, by rw [hstep, exec_wrreg_of_not_mem ha]; rfl⟩
    | init ch | rdch ch =>
      cases henc
      obtain rfl : ch = 0#2 := eq_of_beq hi
      simp at hbad
    | verid d | swap16 d =>
      cases henc
      simp at hbad
    | stIdle ph | stInitializing ph | stPolling ph | stSampling ph | stActuating ph | stTerminating ph | stDone ph
    | stAborted ph => cases henc

/-! ## Phases that R259 does not list (R146) -/

section
variable {ph : Phase}

theorem execStInitializing_of_gt (h : 9#4 < ph) (s : State) :
    execStInitializing ph s = .fault (.unreachablePhase 1#3 ph) := by
  unfold execStInitializing
  split
  case h_11 => rfl
  all_goals bv_omega

theorem execStSampling_of_gt (h : 3#4 < ph) (s : State) :
    execStSampling ph s = .fault (.unreachablePhase 3#3 ph) := by
  unfold execStSampling
  split
  case h_5 => rfl
  all_goals bv_omega

theorem execStTerminating_of_gt (h : 2#4 < ph) (s : State) :
    execStTerminating ph s = .fault (.unreachablePhase 5#3 ph) := by
  unfold execStTerminating
  split
  case h_4 => rfl
  all_goals bv_omega

theorem execStAborted_of_gt (h : 3#4 < ph) (s : State) :
    execStAborted ph s = .fault (.unreachablePhase 7#3 ph) := by
  unfold execStAborted
  split
  case h_5 => rfl
  all_goals bv_omega

end

/-- Settles O37, state by state: one phase, or the phases up to a last one. -/
theorem unlistedPhasesAreStuck : Obligations.UnlistedPhasesAreStuck := by
  intro st ph s h
  rw [decodeFsm_pcCode]
  split
  case h_1 hst =>
    obtain rfl := BitVec.eq_of_toNat_eq (y := 0#3) hst
    exact if_neg (ne_of_beq_false h)
  case h_2 hst =>
    obtain rfl := BitVec.eq_of_toNat_eq (y := 1#3) hst
    exact execStInitializing_of_gt (BitVec.not_le.mp (of_decide_eq_false h)) s
  case h_3 hst =>
    obtain rfl := BitVec.eq_of_toNat_eq (y := 2#3) hst
    exact if_neg (ne_of_beq_false h)
  case h_4 hst =>
    obtain rfl := BitVec.eq_of_toNat_eq (y := 3#3) hst
    exact execStSampling_of_gt (BitVec.not_le.mp (of_decide_eq_false h)) s
  case h_5 hst =>
    obtain rfl := BitVec.eq_of_toNat_eq (y := 4#3) hst
    exact if_neg (ne_of_beq_false h)
  case h_6 hst =>
    obtain rfl := BitVec.eq_of_toNat_eq (y := 5#3) hst
    exact execStTerminating_of_gt (BitVec.not_le.mp (of_decide_eq_false h)) s
  case h_7 hst =>
    obtain rfl := BitVec.eq_of_toNat_eq (y := 6#3) hst
    exact if_neg (ne_of_beq_false h)
  case h_8 =>
    simp only [imp_false] at *
    obtain rfl : st = 7#3 := by bv_omega
    exact execStAborted_of_gt (BitVec.not_le.mp (of_decide_eq_false h)) s

end Sys2Proof.Machine
end

section
/-! PROOFS. The byte order as the driver uses it (R17, R161, R162): the swap is its own inverse, and the shift form of the
spec is the swap of the model; likewise the magnitude and the error flags of a reading (R126). -/

namespace Sys2Proof.Machine
open Sys2Proof.Safety

/-! ## The swap -/

@[simp] theorem wireFirst_swap16 (v : Word16) : wireFirst (swap16 v) = wireSecond v := by
  rw [swap16_eq_rawOfWire, wireFirst_rawOfWire]

@[simp] theorem wireSecond_swap16 (v : Word16) : wireSecond (swap16 v) = wireFirst v := by
  rw [swap16_eq_rawOfWire, wireSecond_rawOfWire]

/-- R162: a word is made of its two wire bytes, so exchanging them twice gives it back. -/
theorem swap16_involutive : Function.Involutive swap16 := fun v => by
  rw [swap16_eq_rawOfWire (swap16 v), wireSecond_swap16, wireFirst_swap16, rawOfWire_wire]

/-- R161: the shift form of the swap; each shift brings one byte to its new place. -/
theorem swap16_eq_shifts (v : Word16) : swap16 v = (v <<< 8) ||| (v >>> 8) := by
  unfold swap16
  ext i hi
  rw [BitVec.getElem_append]
  split_ifs with hlow
  · simp [hlow]
  · simp [hlow, BitVec.getLsbD_of_ge v (8 + i) (by omega), ← BitVec.getLsbD_eq_getElem,
      show i - 8 < 8 by omega, show i < 16 by omega]

/-- Settles O6: the bytes of the swapped word are the wire bytes exchanged, and an involution is a bijection. -/
theorem swapExchangesBytesAndIsItsOwnInverse : Obligations.SwapExchangesBytesAndIsItsOwnInverse :=
  ⟨fun v => ⟨wireSecond_swap16 v, wireFirst_swap16 v, swap16_involutive v⟩, swap16_involutive.bijective⟩

/-! ## The fields of a reading -/

/-- R126: twelve bits of the high word above the sixteen of the low word. -/
theorem assembleMag_eq_shifts (h l : Word16) :
    assembleMag h l = ((h &&& 0x0FFF#16).zeroExtend 28 <<< 16) ||| l.zeroExtend 28 := by
  have hmask : h.toNat &&& 0x0FFF = h.toNat % 2 ^ 12 := Nat.and_two_pow_sub_one_eq_mod _ 12
  have hhigh : h.toNat % 2 ^ 12 < 2 ^ 12 := Nat.mod_lt _ (by decide)
  refine BitVec.eq_of_toNat_eq ?_
  unfold assembleMag
  simp (disch := omega) only [BitVec.toNat_append, BitVec.extractLsb'_toNat, BitVec.toNat_or, BitVec.toNat_shiftLeft,
    BitVec.toNat_setWidth, BitVec.toNat_and, BitVec.toNat_ofNat, Nat.shiftRight_zero, hmask, Nat.shiftLeft_eq,
    Nat.mod_eq_of_lt]

/-- R123: the four bits above the twelve of the magnitude. -/
theorem errorFlags_eq_shifts (h : Word16) : errorFlags h = (h >>> 12).truncate 4 := by
  ext i hi
  simp [errorFlags]

end Sys2Proof.Machine
end

section
/-! PROOFS. What a driver operation does apart from its result (R160): the frame that each keeps, built from the frames of
one register read and one register write. -/

namespace Sys2Proof.Machine
open Sys2Proof.Safety

/-! ## The frame of a driver operation -/

/-- What every driver operation from `s` to `t` with the transactions `l` keeps: the registers of the block, the DIAG
events, the surroundings, and every byte of the device outside the registers that `l` writes. -/
structure DriverFrame (l : List Txn) (s t : State) : Prop where
  /-- No register of the block is written (R160). -/
  regs : t.regs = s.regs
  /-- No event is raised. -/
  diag : t.diag = s.diag
  /-- The transactions are `l`, answered by the register script. -/
  transacts : Transacts .register l s t
  /-- A byte outside the registers written reads as before. -/
  memory : ∀ b, (∀ a raw r, .busWrite a raw r ∈ l → b ≠ regByte a ∧ b ≠ regByte a + 1) →
    t.env.regs.readByte b = s.env.regs.readByte b

section
variable {l l' : List Txn} {s t u : State}

theorem DriverFrame.refl (s : State) : DriverFrame [] s s :=
  ⟨rfl, rfl, by simp [Transacts, Consumes, KeepsSurroundings], fun _ _ => rfl⟩

/-- One after the other: the transactions of the first, then those of the second. -/
theorem DriverFrame.trans (h : DriverFrame l s t) (h' : DriverFrame l' t u) : DriverFrame (l ++ l') s u where
  regs := h'.regs.trans h.regs
  diag := h'.diag.trans h.diag
  transacts := by
    obtain ⟨htrace, hscripts, hkept⟩ := h.transacts
    obtain ⟨htrace', hscripts', hkept'⟩ := h'.transacts
    refine ⟨by rw [htrace', htrace, List.append_assoc], ?_, ?_⟩
    · simp_all [Consumes]
    · simp_all [KeepsSurroundings]
  memory b hb :=
    (h'.memory b fun a raw r hm => hb a raw r (List.mem_append_right l hm)).trans
      (h.memory b fun a raw r hm => hb a raw r (List.mem_append_left l' hm))

/-- Handing the result to the caller touches nothing else. -/
theorem DriverFrame.returnResult (h : DriverFrame l s t) (r : DrvResult) : DriverFrame l s (t.returnResult r) :=
  ⟨h.regs, h.diag, h.transacts, h.memory⟩

/-- Without a write no byte of the device changes. -/
theorem DriverFrame.keepsMemory (h : DriverFrame l s t) (hl : ∀ a raw r, Txn.busWrite a raw r ∉ l) :
    KeepsMemory s t :=
  fun b => h.memory b fun a raw r hm => absurd hm (hl a raw r)

end

/-- A logical read is one transaction of the BUS port. -/
theorem afterMemRead_frame (a : Addr) (s : State) :
    DriverFrame [.busRead a (s.env.readAnswer a)] s (s.afterMemRead a) :=
  ⟨rfl, rfl, by simp [Transacts, Consumes, KeepsSurroundings], fun _ _ => rfl⟩

/-- A logical write is one transaction, which hands over the swapped value (R165). -/
theorem afterMemWrite_frame (a : Addr) (v : Word16) (s : State) :
    DriverFrame [.busWrite a (swap16 v) (s.env.writeAnswer a (swap16 v))] s (s.afterMemWrite a v) where
  regs := rfl
  diag := rfl
  transacts := by simp [Transacts, Consumes, KeepsSurroundings]
  memory b hb := by
    obtain ⟨hfirst, hsecond⟩ := hb _ _ _ List.mem_cons_self
    exact s.env.readByte_regsAfterWrite _ hfirst hsecond

/-! ## The six operations -/

theorem driverRead_frame (a : Addr) (s : State) :
    DriverFrame [.busRead a (s.env.readAnswer a)] s (driverRead a s) := by
  unfold driverRead
  split <;> exact (afterMemRead_frame a s).returnResult _

theorem driverWrite_frame (a : Addr) (d : Word16) (s : State) :
    DriverFrame [.busWrite a (swap16 d) (s.env.writeAnswer a (swap16 d))] s (driverWrite a d s) := by
  unfold driverWrite
  split <;> exact (afterMemWrite_frame a d s).returnResult _

/-- INIT performs writes of entries of its table and nothing else, at most one for each (R167). -/
theorem driverInit_frame (tbl : List (Addr × Word16)) (n : Nat) (s : State) :
    ∃ l, DriverFrame l s (driverInit tbl n s) ∧ l.length ≤ tbl.length
      ∧ ∀ x ∈ l, ∃ entry ∈ tbl, ∃ r, x = .busWrite entry.1 (swap16 entry.2) r := by
  induction tbl generalizing n s with
  | nil => exact ⟨[], (DriverFrame.refl s).returnResult _, by simp⟩
  | cons entry rest ih =>
    obtain ⟨a, v⟩ := entry
    have hfirst := afterMemWrite_frame a v s
    unfold driverInit
    split
    · obtain ⟨l, hrest, hlen, hmem⟩ := ih (n + 1) (s.afterMemWrite a v)
      refine ⟨_, hfirst.trans hrest, by simpa using hlen, fun x hx => ?_⟩
      obtain rfl | hx := List.mem_cons.mp hx
      · exact ⟨(a, v), List.mem_cons_self, _, rfl⟩
      · obtain ⟨entry, hentry, hx⟩ := hmem x hx
        exact ⟨entry, List.mem_cons_of_mem _ hentry, hx⟩
    · exact ⟨_, hfirst.returnResult _, by simp, by simp⟩

theorem driverReadLow_frame (h : Word16) (s : State) :
    DriverFrame [.busRead s.params.aDataLsb (s.env.readAnswer s.params.aDataLsb)] s (driverReadLow h s) := by
  unfold driverReadLow
  split <;> exact (afterMemRead_frame _ s).returnResult _

/-- RDCH whose high read fails performs that read alone (R170). -/
theorem driverReadChannel_frame_of_fail {s : State} (hm : s.env.readAnswer s.params.aDataMsb = .fail) :
    DriverFrame [.busRead s.params.aDataMsb .fail] s (driverReadChannel s) := by
  have hhigh := afterMemRead_frame s.params.aDataMsb s
  rw [hm] at hhigh
  rw [driverReadChannel, State.memRead_eq_fail.mpr hm]
  exact hhigh.returnResult _

/-- RDCH whose high read succeeds performs the low read after it, whatever that answers (R170). -/
theorem driverReadChannel_frame_of_ok {s : State} {w : Word16} (hm : s.env.readAnswer s.params.aDataMsb = .ok w) :
    DriverFrame [.busRead s.params.aDataMsb (.ok w),
      .busRead s.params.aDataLsb ((s.env.afterRead s.params.aDataMsb).readAnswer s.params.aDataLsb)] s
      (driverReadChannel s) := by
  have hhigh := afterMemRead_frame s.params.aDataMsb s
  rw [hm] at hhigh
  rw [driverReadChannel, State.memRead_of_ok hm]
  exact hhigh.trans (driverReadLow_frame _ (s.afterMemRead _))

/-- RDCH performs at most two transactions, both reads. -/
theorem driverReadChannel_frame (s : State) :
    ∃ l, DriverFrame l s (driverReadChannel s) ∧ l.length ≤ 2 ∧ ∀ x ∈ l, ∃ a r, x = .busRead a r := by
  cases hm : s.env.readAnswer s.params.aDataMsb with
  | ok w => exact ⟨_, driverReadChannel_frame_of_ok hm, by simp, by simp⟩
  | fail => exact ⟨_, driverReadChannel_frame_of_fail hm, by simp, by simp⟩

theorem driverVerify_frame (d : Word16) (s : State) :
    DriverFrame [.busRead s.params.aDeviceId (s.env.readAnswer s.params.aDeviceId)] s (driverVerify d s) := by
  unfold driverVerify
  split <;> exact (afterMemRead_frame _ s).returnResult _

/-- Every driver operation keeps the frame with at most six transactions, all on registers: INIT has one for each of the
six entries (R13), RDCH two, the others one or none. -/
theorem exec_driver_frame {i : Instr} {s t : State} (hi : i.drvOpCode.isSome = true)
    (hp : paramsLegal s.params = true) (h : exec i s = .next t) :
    ∃ l, DriverFrame l s t ∧ l.length ≤ 6 ∧ ∀ x ∈ l, onRegister x = true := by
  cases i with
  | rdreg a =>
    simp only [exec, execRdreg] at h
    split at h <;> cases h
    exact ⟨_, driverRead_frame a s, by simp, by simp [onRegister]⟩
  | wrreg a d =>
    simp only [exec, execWrreg] at h
    split at h <;> cases h
    exact ⟨_, driverWrite_frame a d s, by simp, by simp [onRegister]⟩
  | init ch =>
    simp only [exec, execInit] at h
    split at h <;> cases h
    obtain ⟨-, -, hsix, -⟩ := (paramsLegal_iff _).mp hp
    obtain ⟨l, hframe, hlen, hmem⟩ := driverInit_frame s.params.initTable 0 s
    refine ⟨l, hframe, hsix ▸ hlen, fun x hx => ?_⟩
    obtain ⟨_, -, _, rfl⟩ := hmem x hx
    rfl
  | rdch ch =>
    simp only [exec, execRdch] at h
    split at h <;> cases h
    obtain ⟨l, hframe, hlen, hmem⟩ := driverReadChannel_frame s
    refine ⟨l, hframe, by omega, fun x hx => ?_⟩
    obtain ⟨_, _, rfl⟩ := hmem x hx
    rfl
  | verid d =>
    cases h
    exact ⟨_, driverVerify_frame d s, by simp, by simp [onRegister]⟩
  | swap16 d =>
    cases h
    exact ⟨[], (DriverFrame.refl s).returnResult _, by simp, by simp⟩
  | stIdle ph | stInitializing ph | stPolling ph | stSampling ph | stActuating ph | stTerminating ph | stDone ph
  | stAborted ph => cases hi

/-- Settles O16: it is the common frame of the six operations. -/
theorem driverOperationsWriteNoRegister : Obligations.DriverOperationsWriteNoRegister := by
  intro i s t hi hp h
  obtain ⟨l, hframe, hlen, hregister⟩ := exec_driver_frame hi hp h
  obtain ⟨htrace, -, hkept⟩ := hframe.transacts
  exact ⟨hframe.regs, hframe.diag, hkept, l, htrace, hlen, hregister⟩

end Sys2Proof.Machine
end

section
/-! PROOFS. The results of the driver operations (R161 to R174): what each hands to its caller, by the answers of the BUS
port. -/

namespace Sys2Proof.Machine
open Sys2Proof.Safety

/-! ## The mock bus -/

/-- A write that lands leaves its raw word in the register (R101). -/
theorem Env.readReg_regsAfterWrite {e : Env} (hstores : e.stores = true) (hwf : e.regs.wf) (a : Addr) (raw : Word16) :
    (e.regsAfterWrite a raw).readReg a = raw := by
  rw [Env.regsAfterWrite, if_pos hstores, Memory.readReg_writeReg_self hwf]

/-- A write that does not land leaves every register as it was (R97, R101). -/
theorem Env.regsAfterWrite_of_not_stores {e : Env} (h : e.stores = false) (a : Addr) (raw : Word16) :
    e.regsAfterWrite a raw = e.regs := by
  simp [Env.regsAfterWrite, h]

/-- With an empty script the mock bus answers a read with what it holds (R101). -/
theorem Env.readAnswer_of_mockBus {e : Env} (ht : e.transport = .mockBus) (hq : e.regQ = []) (a : Addr) :
    e.readAnswer a = .ok (e.regs.readReg a) := by
  simp [Env.readAnswer, ht, hq]

/-- With an empty script a write lands in the mock bus (R101). -/
theorem Env.stores_of_mockBus {e : Env} (ht : e.transport = .mockBus) (hq : e.regQ = []) : e.stores = true := by
  simp [Env.stores, ht, hq]

/-! ## SWAP16 -/

/-- Settles O8: returning the result is all that the operation does. -/
theorem swap16ReturnsTheSwappedOperand : Obligations.Swap16ReturnsTheSwappedOperand := by
  intro d s
  obtain ⟨-, -, hkept⟩ := ((DriverFrame.refl s).returnResult (.word (swap16 d))).transacts
  exact ⟨_, rfl, by rw [State.returnResult_drvResult, swap16_eq_shifts], rfl, rfl, rfl, hkept⟩

/-! ## RDREG and WRREG -/

section
variable {a : Addr} {d w : Word16} {s : State}

theorem exec_rdreg_of_mem (h : a ∈ s.params.regset) : exec (.rdreg a) s = .next (driverRead a s) := by
  simp [exec, execRdreg, h]

theorem exec_wrreg_of_mem (h : a ∈ s.params.regset) : exec (.wrreg a d) s = .next (driverWrite a d s) := by
  simp [exec, execWrreg, h]

theorem driverRead_result_of_ok (h : s.env.readAnswer a = .ok w) :
    (driverRead a s).drvResult = some (.word (swap16 w)) := by
  rw [driverRead, State.memRead_of_ok h]
  rfl

theorem driverRead_result_of_fail (h : s.env.readAnswer a = .fail) :
    (driverRead a s).drvResult = some (.ioFailure a none) := by
  rw [driverRead, State.memRead_eq_fail.mpr h]
  rfl

theorem driverWrite_result_of_ok (h : s.env.writeAnswer a (swap16 d) = .ok) :
    (driverWrite a d s).drvResult = some .unit := by
  rw [driverWrite, State.memWrite, h]
  rfl

theorem driverWrite_result_of_fail (h : s.env.writeAnswer a (swap16 d) = .fail) :
    (driverWrite a d s).drvResult = some (.ioFailure a none) := by
  rw [driverWrite, State.memWrite, h]
  rfl

/-- Whatever the write is answered, the environment after it is that of the one transaction. -/
theorem driverWrite_env (a : Addr) (d : Word16) (s : State) :
    (driverWrite a d s).env = s.env.afterWrite a (swap16 d) := by
  unfold driverWrite
  split <;> rfl

end

/-- Settles O9: the result is by the one answer, and no read changes a byte. -/
theorem rdregReturnsTheLogicalValue : Obligations.RdregReturnsTheLogicalValue := by
  intro a s
  have hframe := driverRead_frame a s
  refine ⟨fun ha => ⟨_, exec_rdreg_of_mem ha, hframe.transacts, hframe.regs, hframe.diag,
    hframe.keepsMemory (by simp), fun w hw => ?_, driverRead_result_of_fail⟩, exec_rdreg_of_not_mem⟩
  rw [driverRead_result_of_ok hw, swap16_eq_shifts]

/-- Settles O10: the one transaction hands over the swap, and a write that lands leaves it in the register. -/
theorem wrregHandsOverTheSwappedValue : Obligations.WrregHandsOverTheSwappedValue := by
  intro a d s
  have hframe := driverWrite_frame a d s
  simp only [← swap16_eq_shifts]
  refine ⟨fun ha => ⟨_, exec_wrreg_of_mem ha, hframe.transacts, hframe.regs, hframe.diag, driverWrite_result_of_ok,
    driverWrite_result_of_fail, fun b hfirst hsecond => ?_, fun hstores b => ?_, fun hstores hwf => ?_⟩,
    exec_wrreg_of_not_mem⟩
  · refine hframe.memory b fun a' raw r hw => ?_
    cases List.mem_singleton.mp hw
    exact ⟨hfirst, hsecond⟩
  · rw [driverWrite_env, Env.afterWrite_regs, Env.regsAfterWrite_of_not_stores hstores]
  · rw [driverWrite_env, Env.afterWrite_regs, Env.readReg_regsAfterWrite hstores hwf]

/-- Settles O11: the bus holds the swap of the value, and RDREG swaps it back. -/
theorem writtenRegisterReadsBack : Obligations.WrittenRegisterReadsBack := by
  intro a v s ha ht hq hwf
  have hkept := driverWrite_keepsSurroundings a v s
  have hread : (driverWrite a v s).env.readAnswer a = .ok (swap16 v) := by
    rw [driverWrite_env, Env.readAnswer_of_mockBus (by simpa using ht) (by simp [hq]), Env.afterWrite_regs,
      Env.readReg_regsAfterWrite (Env.stores_of_mockBus ht hq) hwf]
  refine ⟨_, _, exec_wrreg_of_mem ha, exec_rdreg_of_mem (by rwa [hkept.1]), ?_⟩
  rw [driverRead_result_of_ok hread, swap16_involutive]

/-! ## RDCH -/

section
variable {s : State} {h l : Word16}

theorem driverReadLow_result_of_ok (hl : s.env.readAnswer s.params.aDataLsb = .ok l) :
    (driverReadLow h s).drvResult = some (.reading (assembleMag h (swap16 l)) (errorFlags h)) := by
  rw [driverReadLow, State.memRead_of_ok hl]
  rfl

theorem driverReadLow_result_of_fail (hl : s.env.readAnswer s.params.aDataLsb = .fail) :
    (driverReadLow h s).drvResult = some (.ioFailure s.params.aDataLsb none) := by
  rw [driverReadLow, State.memRead_eq_fail.mpr hl]
  rfl

theorem driverReadChannel_result_of_fail (hm : s.env.readAnswer s.params.aDataMsb = .fail) :
    (driverReadChannel s).drvResult = some (.ioFailure s.params.aDataMsb none) := by
  rw [driverReadChannel, State.memRead_eq_fail.mpr hm]
  rfl

/-- After a successful high read RDCH is its second half (R170). -/
theorem driverReadChannel_of_ok (hm : s.env.readAnswer s.params.aDataMsb = .ok h) :
    driverReadChannel s = driverReadLow (swap16 h) (s.afterMemRead s.params.aDataMsb) := by
  rw [driverReadChannel, State.memRead_of_ok hm]

end

/-- Settles O13: by the answer of the high read, and after a successful one by the answer of the low read. -/
theorem rdchJoinsHighAndLow : Obligations.RdchJoinsHighAndLow := by
  intro s
  obtain ⟨l, hframe, -, hreads⟩ := driverReadChannel_frame s
  have hmemory : KeepsMemory s (driverReadChannel s) := hframe.keepsMemory fun a raw r hw => by
    obtain ⟨_, _, hx⟩ := hreads _ hw
    cases hx
  refine ⟨_, rfl, hframe.regs, hframe.diag, hmemory, fun hm => ?_, fun w1 hm hl => ?_, fun w1 w2 hm hl => ?_⟩
  · exact ⟨driverReadChannel_result_of_fail hm, (driverReadChannel_frame_of_fail hm).transacts⟩
  · refine ⟨?_, hl ▸ (driverReadChannel_frame_of_ok hm).transacts⟩
    rw [driverReadChannel_of_ok hm, driverReadLow_result_of_fail hl, State.afterMemRead_params]
  · refine ⟨?_, hl ▸ (driverReadChannel_frame_of_ok hm).transacts⟩
    rw [driverReadChannel_of_ok hm, driverReadLow_result_of_ok hl, assembleMag_eq_shifts, errorFlags_eq_shifts]

/-! ## VERID -/

section
variable {d w : Word16} {s : State}

theorem driverVerify_result_of_ok (h : s.env.readAnswer s.params.aDeviceId = .ok w) :
    (driverVerify d s).drvResult
      = some (if swap16 w = d then .unit else .identityMismatch s.params.aDeviceId d (swap16 w)) := by
  rw [driverVerify, State.memRead_of_ok h]
  rfl

theorem driverVerify_result_of_fail (h : s.env.readAnswer s.params.aDeviceId = .fail) :
    (driverVerify d s).drvResult = some (.ioFailure s.params.aDeviceId none) := by
  rw [driverVerify, State.memRead_eq_fail.mpr h]
  rfl

end

/-- Settles O14: the one read fails, gives the expected identity, or gives another. -/
theorem veridComparesTheIdentity : Obligations.VeridComparesTheIdentity := by
  intro d s
  have hframe := driverVerify_frame d s
  refine ⟨_, rfl, hframe.transacts, hframe.regs, hframe.diag, hframe.keepsMemory (by simp),
    driverVerify_result_of_fail, fun w hw heq => ?_, fun w hw hne => ?_⟩
  · rw [driverVerify_result_of_ok hw, if_pos heq]
  · rw [driverVerify_result_of_ok hw, if_neg hne]

end Sys2Proof.Machine
end

section
/-! PROOFS. The initialization table: the order in which INIT writes it (R167), and that the state machine writes it in
INITIALIZING phases 3 to 8, CONFIG last (R168, R206). -/

namespace Sys2Proof.Machine
open Sys2Proof.Safety

/-! ## INIT -/

/-- The environment after the writes of a table's entries in order, whatever they are answered. -/
def Env.afterTable (tbl : List (Addr × Word16)) (e : Env) : Env :=
  tbl.foldl (fun e x => e.afterWrite x.1 (swap16 x.2)) e

/-- After `k` writes that answered `Ok`, INIT goes on with the rest of the table from the environment after them. -/
theorem driverInit_of_answered_ok {tbl : List (Addr × Word16)} {k n : Nat} {s : State}
    (h : ∀ j y, j < k → tbl[j]? = some y → (s.env.afterTable (tbl.take j)).writeAnswer y.1 (swap16 y.2) = .ok) :
    driverInit tbl n s = driverInit (tbl.drop k) (n + k) { s with env := s.env.afterTable (tbl.take k) } := by
  induction tbl generalizing k n s with
  | nil => simp [driverInit, Env.afterTable]
  | cons x rest ih =>
    cases k with
    | zero => simp [Env.afterTable]
    | succ k =>
      have hfirst : s.memWrite x.1 x.2 = .ok := h 0 x (Nat.succ_pos k) rfl
      have hrest := ih (n := n + 1) (s := s.afterMemWrite x.1 x.2) fun j y hj hy => h (j + 1) y (Nat.succ_lt_succ hj) hy
      rw [driverInit, hfirst]
      dsimp only
      rw [hrest, Nat.add_right_comm]
      rfl

/-- When every write answers `Ok`, INIT is all of them (R167). -/
theorem driverInit_of_all_ok {tbl : List (Addr × Word16)} (n : Nat) {s : State}
    (h : ∀ k x, tbl[k]? = some x → (s.env.afterTable (tbl.take k)).writeAnswer x.1 (swap16 x.2) = .ok) :
    driverInit tbl n s = State.returnResult .unit { s with env := s.env.afterTable tbl } := by
  rw [driverInit_of_answered_ok (k := tbl.length) fun j y _ hy => h j y hy, List.drop_length, List.take_length]
  rfl

/-- One more entry is one more write. -/
theorem Env.afterTable_take_succ {tbl : List (Addr × Word16)} {k : Nat} {x : Addr × Word16} (e : Env)
    (hx : tbl[k]? = some x) :
    e.afterTable (tbl.take (k + 1)) = (e.afterTable (tbl.take k)).afterWrite x.1 (swap16 x.2) := by
  simp [Env.afterTable, List.take_add_one, hx]

/-- When the write of entry `k` is the first to answer `Fail`, INIT ends with it (R167). -/
theorem driverInit_of_fail_at {tbl : List (Addr × Word16)} {k n : Nat} {x : Addr × Word16} {s : State}
    (hx : tbl[k]? = some x) (hfail : (s.env.afterTable (tbl.take k)).writeAnswer x.1 (swap16 x.2) = .fail)
    (hok : ∀ j y, j < k → tbl[j]? = some y → (s.env.afterTable (tbl.take j)).writeAnswer y.1 (swap16 y.2) = .ok) :
    driverInit tbl n s
      = State.returnResult (.ioFailure x.1 (some (n + k))) { s with env := s.env.afterTable (tbl.take (k + 1)) } := by
  rw [driverInit_of_answered_ok hok, Env.afterTable_take_succ s.env hx]
  obtain ⟨hk, rfl⟩ := List.getElem?_eq_some_iff.mp hx
  rw [List.drop_eq_getElem_cons hk, driverInit, State.memWrite, hfail]
  rfl

/-- Settles O12: the two ways in which INIT ends give the result and the environment, and the result tells which of the
two records of `driverInit_cases` was made. -/
theorem initWritesTheTableInOrder : Obligations.InitWritesTheTableInOrder := by
  intro s tbl E answered
  obtain ⟨l, hframe, -, hwrites⟩ := driverInit_frame tbl 0 s
  obtain ⟨-, -, -, -, -, -, -, -, hrecord⟩ := driverInit_cases tbl 0 s
  refine ⟨driverInit tbl 0 s, rfl, hframe.regs, hframe.diag, driverInit_keepsSurroundings tbl 0 s,
    fun b hb => hframe.memory b fun a raw r hw => ?_, fun hok => ?_, fun k x hx hfail hok => ?_⟩
  · obtain ⟨entry, hentry, _, hx⟩ := hwrites _ hw
    cases hx
    exact hb entry hentry
  · have hend := driverInit_of_all_ok 0 hok
    have hresult : (driverInit tbl 0 s).drvResult = some .unit := by rw [hend]; rfl
    have hwhole : E tbl.length = s.env.afterTable tbl := congrArg s.env.afterTable List.take_length
    refine ⟨hresult, by rw [hend, hwhole]; rfl, ?_⟩
    obtain ⟨-, htrace⟩ | ⟨_, _, -, hother, -⟩ := hrecord
    · exact htrace
    · cases hresult.symm.trans hother
  · have hend := driverInit_of_fail_at (n := 0) hx hfail hok
    have hresult : (driverInit tbl 0 s).drvResult = some (.ioFailure x.1 (some (0 + k))) := by rw [hend]; rfl
    refine ⟨by rw [hresult, Nat.zero_add], by rw [hend]; rfl, ?_⟩
    obtain ⟨hother, -⟩ | ⟨k', x', hx', hresult', htrace⟩ := hrecord
    · cases hresult.symm.trans hother
    · obtain ⟨-, rfl⟩ : x.1 = x'.1 ∧ k = k' := by simpa using hresult.symm.trans hresult'
      cases hx.symm.trans hx'
      exact htrace

/-! ## INITIALIZING -/

/-- With legal parameters the entry that writes CONFIG is the last one (R13). -/
theorem initEntry_address_iff {p : Params} (h : paramsLegal p = true) {k : Nat} (hk : k < 6) :
    (initEntry p k).1 = p.aConfig ↔ k = 5 := by
  obtain ⟨-, -, hlen, horder, -⟩ := (paramsLegal_iff p).mp h
  exact horder k _ (by simp [initEntry, hlen, hk])

/-- Phases 3 to 8 of INITIALIZING are the write of an entry (R206). -/
theorem execStInitializing_of_write {ph : Phase} (hlo : 3#4 ≤ ph) (hhi : ph ≤ 8#4) (s : State) :
    execStInitializing ph s = .next (initWriteStep ph s) := by
  unfold execStInitializing
  split
  case h_1 | h_2 | h_3 | h_10 => bv_omega
  case h_11 =>
    simp only [imp_false] at *
    bv_omega
  all_goals rfl

/-- The write of an entry is recorded with its answer, whichever it is. -/
theorem initWriteStep_trace (ph : Phase) (s : State) :
    ∃ r, (initWriteStep ph s).env.trace = s.env.trace
      ++ [.busWrite (initEntry s.params (ph.toNat - 3)).1 (swap16 (initEntry s.params (ph.toNat - 3)).2) r] := by
  unfold initWriteStep
  dsimp only
  split <;> exact ⟨_, rfl⟩

/-- Settles O55: the frame of the handler gives the phases, and the entry written in a phase gives the address. -/
theorem activationRegisterIsWrittenLast : Obligations.ActivationRegisterIsWrittenLast := by
  rintro s t a raw r ⟨hp, hr, hn⟩ h htrace
  obtain ⟨u, he, hframe, rfl⟩ := step_of_handler hn hr h
  have hu : u.env.trace = s.env.trace ++ [.busWrite a raw r] := htrace
  obtain hsame | ⟨x, hx, hlisted⟩ := hframe.transaction
  · simp [hu] at hsame
  · obtain rfl : x = .busWrite a raw r := by simpa [hu, eq_comm] using hx
    obtain ⟨hst, hlo, hhi, -⟩ := hlisted hp
    rw [hst, decodeFsm_pcCode] at he
    have hwrite := execStInitializing_of_write hlo hhi s.begin
    obtain rfl : initWriteStep s.regs.ph s.begin = u := by simpa [exec, hwrite] using he
    obtain ⟨_, hentry⟩ := initWriteStep_trace s.regs.ph s.begin
    obtain ⟨rfl, -⟩ : a = _ ∧ _ := by simpa [hu] using hentry
    refine ⟨hst, hlo, hhi, (initEntry_address_iff hp (k := s.regs.ph.toNat - 3) (by bv_omega)).trans ?_⟩
    bv_omega

end Sys2Proof.Machine
end

section
/-! PROOFS. One exchange with the environment, port by port (R16): the transaction that is recorded, the script that
answered it, and the device registers that stay; and the answers that a handler can meet. -/

namespace Sys2Proof.Machine
open Sys2Proof.Safety

/-! ## One transaction -/

/-- From the environment `e` to `f` exactly the transaction `x` was performed, answered by the script `q`, and no device
register was written. -/
structure Exchange (q : Script) (x : Txn) (e f : Env) : Prop where
  /-- The record. -/
  trace : f.trace = e.trace ++ [x]
  /-- The scripts. -/
  scripts : Consumes q 1 e f
  /-- The device registers. -/
  memory : f.regs = e.regs

section
variable (e : Env)

theorem exchange_afterOpen (n : Nat) : Exchange .busOpen (.busOpen n e.openAnswer) e (e.afterOpen n) :=
  ⟨rfl, by simp [Consumes], rfl⟩

theorem exchange_afterRead (a : Addr) : Exchange .register (.busRead a (e.readAnswer a)) e (e.afterRead a) :=
  ⟨rfl, by simp [Consumes], rfl⟩

theorem exchange_afterRelease : Exchange .none .busRelease e e.afterRelease :=
  ⟨rfl, by simp [Consumes], rfl⟩

theorem exchange_afterTime (w : Nat) : Exchange .time (.timeNow (e.timeAnswer w)) e (e.afterTime w) :=
  ⟨rfl, by simp [Consumes], rfl⟩

theorem exchange_afterSinkOpen (header : String) :
    Exchange .sinkOpen (.sinkOpen header e.sinkOpenAnswer) e (e.afterSinkOpen header) :=
  ⟨rfl, by simp [Consumes], rfl⟩

theorem exchange_afterEmit (r : Sample) : Exchange .emit (.sinkEmit r (e.emitAnswer r)) e (e.afterEmit r) :=
  ⟨rfl, by simp [Consumes], rfl⟩

theorem exchange_afterClose : Exchange .close (.sinkClose e.closeAnswer) e e.afterClose :=
  ⟨rfl, by simp [Consumes], rfl⟩

theorem exchange_afterSend (vec : List Word16) :
    Exchange .send (.actSend vec (e.sendAnswer vec)) e (e.afterSend vec) :=
  ⟨rfl, by simp [Consumes], rfl⟩

theorem exchange_afterActRelease : Exchange .none .actRelease e e.afterActRelease :=
  ⟨rfl, by simp [Consumes], rfl⟩

end

section
variable {q : Script} {x : Txn} {st : StCode} {ph : Phase} {s t : State}

/-- A handler whose environment made one exchange performed exactly that transaction. -/
theorem HandlerFrame.transacts_of_exchange (h : HandlerFrame st ph s t) (hx : Exchange q x s.env t.env) :
    Transacts q [x] s t :=
  ⟨hx.trace, hx.scripts, h.surroundings⟩

theorem Exchange.keepsMemory (hx : Exchange q x s.env t.env) : KeepsMemory s t :=
  fun b => congrArg (·.readByte b) hx.memory

theorem keepsMemory_of_env (h : t.env = s.env) : KeepsMemory s t := fun b => by rw [h]

/-- A handler that left the environment alone performed no transaction. -/
theorem HandlerFrame.silent_of_env (h : HandlerFrame st ph s t) (henv : t.env = s.env) : Silent s t :=
  ⟨henv, h.surroundings⟩

end

end Sys2Proof.Machine
end

section
/-! PROOFS. IDLE and INITIALIZING (R200 to R207): what the handler of each phase does, by the answer that it gets. -/

namespace Sys2Proof.Machine
open Sys2Proof.Safety

/-! ## IDLE -/

/-- Narrowing a natural number to a width is the remainder modulo the power of 2 (R12). -/
theorem narrow_natCast (w n : Nat) : narrow w n = n % 2 ^ w := by
  unfold narrow
  norm_cast

/-- The counts as the port carries them (R61). -/
theorem offered_eq (p : Params) (h : HostIn) :
    offered p h
      = { h with sampleCount := h.sampleCount % 2 ^ p.wCnt, stepCount := h.stepCount % 2 ^ p.wCnt } := by
  rw [offered, narrow_natCast, narrow_natCast]

section
variable {s : State}

theorem idleStep_of_not_start (h : s.host.start = false) : idleStep s = s := by
  simp [idleStep, h]

theorem idleStep_of_valid (h : s.host.start = true) (hvalid : ConfigurationValid s.params (offered s.params s.host)) :
    idleStep s = runStart (latchConfig s) := by
  simp [idleStep, h, (configValid_iff ..).mpr hvalid]

theorem idleStep_of_invalid (h : s.host.start = true)
    (hinvalid : ¬ ConfigurationValid s.params (offered s.params s.host)) :
    idleStep s = abortPlain .configValidationError 0#3 0#4 (latchConfig s) := by
  simp [idleStep, h, mt (configValid_iff ..).mp hinvalid]

/-- R200: whatever is offered, IDLE uses no port, raises no event and returns no result. -/
theorem idleStep_env_diag (s : State) : (idleStep s).env = s.env ∧ (idleStep s).diag = s.diag := by
  unfold idleStep
  split_ifs <;> exact ⟨rfl, rfl⟩

end

/-- Settles O17: the three branches of the handler are the three cases of R200, and the configuration that it latches is
the offered one with its counts narrowed. -/
theorem idleTakesStartAndValidates : Obligations.IdleTakesStartAndValidates := by
  intro s h latched
  have hoffered : offered s.params s.host = h := offered_eq s.params s.host
  have hlatched : (latchConfig s).regs = latched := by rw [latchConfig, hoffered]
  obtain ⟨henv, hdiag⟩ := idleStep_env_diag s
  have hframe := idleStep_frame s
  refine ⟨idleStep s, rfl, hframe.silent_of_env henv, hdiag, hframe.drvResult, fun hstart => ?_,
    fun hstart hvalid => ?_, fun hstart hinvalid => ?_⟩
  · rw [idleStep_of_not_start hstart]
  · rw [idleStep_of_valid hstart (hoffered ▸ hvalid), runStart, hlatched]
    rfl
  · rw [idleStep_of_invalid hstart (hoffered ▸ hinvalid), abortPlain, abort, hlatched]
    rfl

/-! ## INITIALIZING -/

/-- A nanoseconds answer keeps its value in a register of 30 bits (R36). -/
theorem nsecWord_toNat (n : Fin 1000000000) : (nsecWord n).toNat = n.val :=
  BitVec.toNat_ofNat .. ▸ Nat.mod_eq_of_lt (by omega)

/-- Settles O18: the answer of the port fits the two registers. -/
theorem runStartCapturesTheTime : Obligations.RunStartCapturesTheTime := by
  intro s now
  have hexchange := exchange_afterTime s.env s.params.wSec
  exact ⟨initCaptureTime s, nsecWord now.nsec, rfl, (initCaptureTime_frame s).transacts_of_exchange hexchange, rfl,
    s.env.timeAnswer_sec_lt _, nsecWord_toNat _, rfl, rfl, hexchange.keepsMemory (t := initCaptureTime s)⟩

section
variable {s : State}

/-- R204: whatever is answered, opening the bus is the one transaction and raises no event. -/
theorem initOpenBus_env_diag (s : State) :
    (initOpenBus s).env = s.env.afterOpen s.params.busAddress ∧ (initOpenBus s).diag = s.diag := by
  unfold initOpenBus
  dsimp only
  split <;> exact ⟨rfl, rfl⟩

theorem initOpenBus_regs_of_ok (h : s.env.openAnswer = .ok) :
    (initOpenBus s).regs = { s.regs with busOwned := true, st := 1#3, ph := 2#4 } := by
  rw [initOpenBus, h]

theorem initOpenBus_regs_of_fail (h : s.env.openAnswer = .fail) :
    (initOpenBus s).regs = (abortPlain .ioFailure 1#3 1#4 s).regs := by
  rw [initOpenBus, h]
  rfl

/-- R205: whatever is answered, creating the sink is the one transaction and raises no event. -/
theorem initOpenSink_env_diag (s : State) :
    (initOpenSink s).env = s.env.afterSinkOpen s.params.headerLine ∧ (initOpenSink s).diag = s.diag := by
  unfold initOpenSink
  dsimp only
  split <;> exact ⟨rfl, rfl⟩

theorem initOpenSink_regs_of_ok (h : s.env.sinkOpenAnswer = .ok) :
    (initOpenSink s).regs = { s.regs with sinkOpen := true, st := 1#3, ph := 3#4 } := by
  rw [initOpenSink, h]

theorem initOpenSink_regs_of_fail (h : s.env.sinkOpenAnswer = .fail) :
    (initOpenSink s).regs = (abortPlain .sinkWriteFailure 1#3 2#4 s).regs := by
  rw [initOpenSink, h]
  rfl

end

/-- Settles O19: opening the bus is the exchange, and its answer decides the registers. -/
theorem runStartOpensTheBus : Obligations.RunStartOpensTheBus := by
  intro s
  obtain ⟨henv, hdiag⟩ := initOpenBus_env_diag s
  have hframe := initOpenBus_frame s
  have hexchange := henv ▸ exchange_afterOpen s.env s.params.busAddress
  exact ⟨initOpenBus s, rfl, hframe.transacts_of_exchange hexchange, hdiag, hframe.drvResult, hexchange.keepsMemory,
    initOpenBus_regs_of_ok, initOpenBus_regs_of_fail⟩

/-- Settles O20: creating the sink is the exchange, and its answer decides the registers. -/
theorem runStartOpensTheSink : Obligations.RunStartOpensTheSink := by
  intro s
  obtain ⟨henv, hdiag⟩ := initOpenSink_env_diag s
  have hframe := initOpenSink_frame s
  have hexchange := henv ▸ exchange_afterSinkOpen s.env s.params.headerLine
  exact ⟨initOpenSink s, rfl, hframe.transacts_of_exchange hexchange, hdiag, hframe.drvResult, hexchange.keepsMemory,
    initOpenSink_regs_of_ok, initOpenSink_regs_of_fail⟩

section
variable {s : State} {ph : Phase} {a : Addr} {v : Word16}

/-- R206: the write of the entry with its answer `Ok`. -/
theorem initWriteStep_of_ok (hentry : initEntry s.params (ph.toNat - 3) = (a, v)) (h : s.memWrite a v = .ok) :
    initWriteStep ph s = (s.afterMemWrite a v).goto 1#3 (ph + 1#4) := by
  simp only [initWriteStep, hentry, h]
  rfl

/-- R206: the write of the entry with its answer `Fail`. -/
theorem initWriteStep_of_fail (hentry : initEntry s.params (ph.toNat - 3) = (a, v)) (h : s.memWrite a v = .fail) :
    initWriteStep ph s = abortAt .ioFailure 1#3 ph a (s.afterMemWrite a v) := by
  simp only [initWriteStep, hentry, h]

/-- R206: whatever is answered, the environment is that after the write of the entry, and no event is raised. -/
theorem initWriteStep_env_diag (hentry : initEntry s.params (ph.toNat - 3) = (a, v)) :
    (initWriteStep ph s).env = (s.afterMemWrite a v).env ∧ (initWriteStep ph s).diag = s.diag := by
  cases h : s.memWrite a v with
  | ok => exact initWriteStep_of_ok hentry h ▸ ⟨rfl, rfl⟩
  | fail => exact initWriteStep_of_fail hentry h ▸ ⟨rfl, rfl⟩

end

/-- Settles O21: the entry of the phase is written, in the frame of one register write. -/
theorem startupWritesTheTableEntry : Obligations.StartupWritesTheTableEntry := by
  intro s ph a v hlo hhi hx
  have hentry : initEntry s.params (ph.toNat - 3) = (a, v) := by simp [initEntry, hx]
  obtain ⟨henv, hdiag⟩ := initWriteStep_env_diag hentry
  have hframe := initWriteStep_frame hlo hhi s
  obtain ⟨htrace, hscripts, -⟩ := (afterMemWrite_frame a v s).transacts
  refine ⟨initWriteStep ph s, execStInitializing_of_write hlo hhi s,
    ⟨henv ▸ htrace, henv ▸ hscripts, hframe.surroundings⟩, hdiag, hframe.drvResult, fun b hfirst hsecond => ?_,
    fun hok => ?_, fun hfail => ?_⟩
  · rw [henv]
    exact s.env.readByte_regsAfterWrite _ hfirst hsecond
  · rw [initWriteStep_of_ok hentry hok]
    rfl
  · rw [initWriteStep_of_fail hentry hfail]
    rfl

section
variable {s : State} {w : Word16}

/-- R207: whatever is answered, reading the identity is the one transaction and raises no event. -/
theorem initCheckIdentity_env_diag (s : State) :
    (initCheckIdentity s).env = s.env.afterRead s.params.aDeviceId ∧ (initCheckIdentity s).diag = s.diag := by
  unfold initCheckIdentity
  dsimp only
  split
  · split_ifs <;> exact ⟨rfl, rfl⟩
  · exact ⟨rfl, rfl⟩

theorem initCheckIdentity_regs_of_fail (h : s.env.readAnswer s.params.aDeviceId = .fail) :
    (initCheckIdentity s).regs = (abortAt .ioFailure 1#3 9#4 s.params.aDeviceId s).regs := by
  rw [initCheckIdentity, State.memRead_eq_fail.mpr h]
  rfl

theorem initCheckIdentity_regs_of_match (h : s.env.readAnswer s.params.aDeviceId = .ok w)
    (hid : swap16 w = Config.idExpected) : (initCheckIdentity s).regs = { s.regs with st := 2#3, ph := 0#4 } := by
  rw [initCheckIdentity, State.memRead_of_ok h]
  dsimp only
  rw [if_pos hid]
  rfl

theorem initCheckIdentity_regs_of_mismatch (h : s.env.readAnswer s.params.aDeviceId = .ok w)
    (hid : swap16 w ≠ Config.idExpected) :
    (initCheckIdentity s).regs
      = (abort .identityMismatch 1#3 9#4 s.params.aDeviceId Config.idExpected (swap16 w) 0#4 s).regs := by
  rw [initCheckIdentity, State.memRead_of_ok h]
  dsimp only
  rw [if_neg hid]
  rfl

end

/-- Settles O22: reading the identity is the exchange, and the comparison of the logical value decides. -/
theorem startupChecksTheIdentity : Obligations.StartupChecksTheIdentity := by
  intro s a
  obtain ⟨henv, hdiag⟩ := initCheckIdentity_env_diag s
  have hframe := initCheckIdentity_frame s
  have hexchange := henv ▸ exchange_afterRead s.env a
  exact ⟨initCheckIdentity s, rfl, hframe.transacts_of_exchange hexchange, hdiag, hframe.drvResult,
    hexchange.keepsMemory, initCheckIdentity_regs_of_fail, fun w => initCheckIdentity_regs_of_match,
    fun w => initCheckIdentity_regs_of_mismatch⟩

end Sys2Proof.Machine
end

section
/-! PROOFS. POLLING and SAMPLING (R210 to R231): what the handler of each phase does, by the answer that it gets, and
the end of an iteration. -/

namespace Sys2Proof.Machine
open Sys2Proof.Safety

/-! ## POLLING -/

section
variable {s : State} {w : Word16}

/-- R212: a stop request ends the run before anything else is looked at. -/
theorem pollStep_of_stop (h : s.params.hasStop = true ∧ s.host.stopReq = true) : pollStep s = s.goto 5#3 0#4 := by
  simp [pollStep, h]

/-- R213: without a stop request a poll limit that is reached is fatal. -/
theorem pollStep_of_timeout (hstop : ¬ (s.params.hasStop = true ∧ s.host.stopReq = true))
    (h : s.params.pollLimit ≠ 0 ∧ s.params.pollLimit ≤ s.regs.polls) :
    pollStep s = abortAt .pollTimeout 2#3 0#4 s.params.aStatus s := by
  rw [pollStep, if_neg (by simpa using hstop), if_pos h]

/-- R211: otherwise the status register is read. -/
theorem pollStep_of_read (hstop : ¬ (s.params.hasStop = true ∧ s.host.stopReq = true))
    (h : ¬ (s.params.pollLimit ≠ 0 ∧ s.params.pollLimit ≤ s.regs.polls)) : pollStep s = pollRead s := by
  rw [pollStep, if_neg (by simpa using hstop), if_neg h]

/-- R211: whatever is answered, reading the status is the one transaction. -/
theorem pollRead_env (s : State) : (pollRead s).env = s.env.afterRead s.params.aStatus := by
  unfold pollRead
  dsimp only
  split
  · rfl
  · split_ifs <;> rfl

theorem pollRead_of_fail (h : s.env.readAnswer s.params.aStatus = .fail) :
    pollRead s = pollFailure (s.afterMemRead s.params.aStatus) := by
  rw [pollRead, State.memRead_eq_fail.mpr h]

/-- The data-ready test is that of R127. -/
theorem dataReady_eq_true_iff (mask status : Word16) : dataReady mask status = true ↔ status &&& mask ≠ 0#16 := by
  simp [dataReady]

theorem pollRead_of_ready (h : s.env.readAnswer s.params.aStatus = .ok w)
    (hready : swap16 w &&& s.params.drdyMask ≠ 0#16) :
    pollRead s = { s with
      env := s.env.afterRead s.params.aStatus
      regs := { s.regs with stat := swap16 w, polls := 0, st := 3#3, ph := 0#4 } } := by
  rw [pollRead, State.memRead_of_ok h]
  dsimp only
  rw [if_pos ((dataReady_eq_true_iff ..).mpr hready)]
  rfl

theorem pollRead_of_not_ready (h : s.env.readAnswer s.params.aStatus = .ok w)
    (hready : swap16 w &&& s.params.drdyMask = 0#16) :
    pollRead s = { s with
      env := s.env.afterRead s.params.aStatus
      regs := { s.regs with stat := swap16 w, polls := satSucc s.params.wCnt s.regs.polls } } := by
  rw [pollRead, State.memRead_of_ok h]
  dsimp only
  rw [if_neg (mt (dataReady_eq_true_iff ..).mp (not_not_intro hready))]
  rfl

end

/-- R211: no poll step writes a device register. -/
theorem pollStep_keepsMemory (s : State) : KeepsMemory s (pollStep s) := by
  unfold pollStep
  split_ifs
  · exact keepsMemory_of_env rfl
  · exact keepsMemory_of_env rfl
  · exact (pollRead_env s ▸ exchange_afterRead s.env s.params.aStatus).keepsMemory

/-- Settles O23: the three branches in the order of R211, and in the last one the answer of the status read. -/
theorem pollStepFollowsItsPriorities : Obligations.PollStepFollowsItsPriorities := by
  intro s a stop timeout more
  have hframe := pollStep_frame s
  refine ⟨pollStep s, rfl, hframe.drvResult, pollStep_keepsMemory s, fun hstop => ?_, fun hstop htimeout => ?_,
    fun hstop htimeout => ?_⟩
  · rw [pollStep_of_stop hstop] at hframe ⊢
    exact ⟨hframe.silent_of_env rfl, rfl, rfl⟩
  · rw [pollStep_of_timeout hstop htimeout] at hframe ⊢
    exact ⟨hframe.silent_of_env rfl, rfl, rfl⟩
  · rw [pollStep_of_read hstop htimeout] at hframe ⊢
    refine ⟨hframe.transacts_of_exchange (pollRead_env s ▸ exchange_afterRead s.env a), fun hfail => ?_,
      fun w hok hready => ?_, fun w hok hready => ?_⟩
    · rw [pollRead_of_fail hfail]
      exact ⟨rfl, rfl⟩
    · rw [pollRead_of_ready hok hready]
      exact ⟨rfl, rfl⟩
    · rw [pollRead_of_not_ready hok hready]
      exact ⟨rfl, rfl⟩

/-! ## The end of an iteration -/

/-- Settles O29: counting in W_CNT bits is counting modulo 2^W_CNT. -/
theorem skipCountsReportsAndAdvances : Obligations.SkipCountsReportsAndAdvances := by
  intro a s
  rw [skip_regs, advance_regs, ← succCnt_eq_mod]
  exact ⟨rfl, rfl, ⟨rfl, rfl, rfl, rfl, rfl, rfl, rfl⟩, rfl⟩

/-- R230: SCT' counts modulo 2^W_CNT, and with the actuator enabled only. -/
theorem nextSct_eq_mod (w : Nat) (r : Regs) :
    nextSct w r = if r.cfgAct = true then (r.sct + 1) % 2 ^ w else r.sct := by
  rw [nextSct, succCnt_eq_mod]

section
variable {w : Nat} {r : Regs}

/-- R231: exhaustion of the sample count goes before the step boundary. -/
theorem advanceRegs_of_last (h : succCnt w r.nit = r.cfgNsamp) :
    advanceRegs w r = { r with nit := succCnt w r.nit, sct := nextSct w r, st := 5#3, ph := 0#4 } := if_pos h

theorem advanceRegs_of_boundary (h : succCnt w r.nit ≠ r.cfgNsamp)
    (hboundary : r.cfgAct = true ∧ nextSct w r = r.cfgStep) :
    advanceRegs w r = { r with nit := succCnt w r.nit, sct := 0, st := 4#3, ph := 0#4 } :=
  (if_neg h).trans (if_pos hboundary)

theorem advanceRegs_of_more (h : succCnt w r.nit ≠ r.cfgNsamp)
    (hboundary : ¬ (r.cfgAct = true ∧ nextSct w r = r.cfgStep)) :
    advanceRegs w r = { r with nit := succCnt w r.nit, sct := nextSct w r, st := 2#3, ph := 0#4 } :=
  (if_neg h).trans (if_neg hboundary)

end

/-- Settles O30: the three branches of `advance`, with the counters modulo 2^W_CNT. -/
theorem advanceChoosesTheNextState : Obligations.AdvanceChoosesTheNextState := by
  intro s r nit sct t
  have hnit : succCnt s.params.wCnt r.nit = nit := succCnt_eq_mod ..
  have hsct : nextSct s.params.wCnt r = sct := nextSct_eq_mod ..
  refine ⟨⟨rfl, rfl, rfl, rfl, rfl, rfl, rfl⟩, rfl, rfl, ?_⟩
  rw [← hnit, ← hsct]
  exact ⟨advanceRegs_of_last, fun hmore hact hboundary => advanceRegs_of_boundary hmore ⟨hact, hboundary⟩,
    advanceRegs_of_more⟩

/-! ## SAMPLING: the reading -/

section
variable {s : State} {w : Word16}

/-- R221: whatever is answered, the high read is the one transaction. -/
theorem sampleHigh_env (s : State) : (sampleHigh s).env = s.env.afterRead s.params.aDataMsb := by
  unfold sampleHigh
  dsimp only
  split <;> rfl

theorem sampleHigh_of_ok (h : s.env.readAnswer s.params.aDataMsb = .ok w) :
    sampleHigh s = { s with
      env := s.env.afterRead s.params.aDataMsb
      regs := { s.regs with hi := swap16 w, st := 3#3, ph := 1#4 } } := by
  rw [sampleHigh, State.memRead_of_ok h]
  rfl

theorem sampleHigh_of_fail (h : s.env.readAnswer s.params.aDataMsb = .fail) :
    sampleHigh s = skip s.params.aDataMsb (s.afterMemRead s.params.aDataMsb) := by
  rw [sampleHigh, State.memRead_eq_fail.mpr h]

/-- R222: whatever is answered, the low read is the one transaction. -/
theorem sampleLow_env (s : State) : (sampleLow s).env = s.env.afterRead s.params.aDataLsb := by
  unfold sampleLow
  dsimp only
  split <;> rfl

end

/-- Settles O24: the high read is the exchange, and its answer decides. -/
theorem samplingReadsTheHighRegister : Obligations.SamplingReadsTheHighRegister := by
  intro s a
  have hframe := sampleHigh_frame s
  have hexchange := sampleHigh_env s ▸ exchange_afterRead s.env a
  refine ⟨sampleHigh s, rfl, hframe.transacts_of_exchange hexchange, hframe.drvResult, hexchange.keepsMemory,
    fun w hok => ?_, sampleHigh_of_fail⟩
  rw [sampleHigh_of_ok hok]
  exact ⟨rfl, rfl⟩

/-- R66: a reading without a flag raises no event. -/
theorem warnEvents_of_clear {ef : Nibble} (h : ef = 0#4) : warnEvents ef = [] := if_pos h

/-- R66: a reading with a flag warns. -/
theorem warnEvents_of_set {ef : Nibble} (h : ef ≠ 0#4) : warnEvents ef = [.warnEvt ef] := if_neg h

/-- Settles O25: the low read is the exchange; the magnitude and the flags in the form of shifts are those that the
handler assembles. -/
theorem samplingReadsTheLowRegister : Obligations.SamplingReadsTheLowRegister := by
  intro s a ef
  have hframe := sampleLow_frame s
  have hexchange := sampleLow_env s ▸ exchange_afterRead s.env a
  have hef : errorFlags s.regs.hi = ef := errorFlags_eq_shifts s.regs.hi
  refine ⟨sampleLow s, rfl, hframe.transacts_of_exchange hexchange, hframe.drvResult, hexchange.keepsMemory,
    fun w hok => ?_, fun hfail => sampleLow_of_fail (State.memRead_eq_fail.mpr hfail)⟩
  rw [sampleLow_of_ok (State.memRead_of_ok hok), ← assembleMag_eq_shifts, hef]
  refine ⟨rfl, fun hclear => ?_, fun hset => ?_⟩
  · rw [warnEvents_of_clear hclear, List.append_nil]
  · rw [warnEvents_of_set hset]

end Sys2Proof.Machine
end

section
/-! PROOFS. SAMPLING phases 2 and 3: the elapsed time over the integers (R223, R63), and the emission with the text line
of the record (R224, R130, R131). -/

namespace Sys2Proof.Machine
open Sys2Proof.Safety

/-! ## The elapsed time -/

/-- A narrowed value as an integer: the remainder modulo the power of 2 (R12). -/
theorem narrow_toInt (w : Nat) (x : Int) : (narrow w x : Int) = x % 2 ^ w :=
  Int.toNat_of_nonneg (Int.emod_nonneg x (by positivity))

section
variable {w t0s sec : Nat} {t0n n : Nsec}

/-- R223: without a borrow. -/
theorem elapsed_of_le (h : t0n.toNat ≤ n.toNat) : elapsed w t0s sec t0n n = (narrow w (sec - t0s), n - t0n) :=
  if_pos (BitVec.le_def.mpr h)

/-- R223: with a borrow of one second. -/
theorem elapsed_of_lt (h : n.toNat < t0n.toNat) :
    elapsed w t0s sec t0n n = (narrow w (sec - t0s - 1), n + secondNs - t0n) :=
  if_neg (BitVec.not_le.mpr (BitVec.lt_def.mpr h))

theorem toNat_sub_nsec (h : t0n.toNat ≤ n.toNat) : (n - t0n).toNat = n.toNat - t0n.toNat :=
  BitVec.toNat_sub_of_le (BitVec.le_def.mpr h)

/-- The borrowed second brings the difference back below one second, and the sum on the way stays in 30 bits or wraps
back. -/
theorem toNat_borrow_nsec (h : n.toNat < t0n.toNat) (h0 : t0n.toNat ≤ 999999999) :
    (n + secondNs - t0n).toNat = n.toNat + 1000000000 - t0n.toNat := by
  unfold secondNs
  bv_omega

end

/-- Settles O26: the two branches of the subtraction, on the answer of the port. -/
theorem samplingStampsTheElapsedTime : Obligations.SamplingStampsTheElapsedTime := by
  intro s now n
  have hexchange := exchange_afterTime s.env s.params.wSec
  have hn : (nsecWord now.nsec).toNat = n := nsecWord_toNat now.nsec
  refine ⟨sampleTime s, _, _, rfl, (sampleTime_frame s).transacts_of_exchange hexchange, rfl, rfl, rfl,
    hexchange.keepsMemory (t := sampleTime s), fun hle => ?_, fun hlt => ?_, fun hlt h0 => ?_, fun h0 => ?_⟩
  · rw [elapsed_of_le (hn.symm ▸ hle), narrow_toInt, toNat_sub_nsec (hn.symm ▸ hle), hn]
    exact ⟨rfl, rfl⟩
  · rw [elapsed_of_lt (hn.symm ▸ hlt), narrow_toInt]
  · rw [elapsed_of_lt (hn.symm ▸ hlt), toNat_borrow_nsec (hn.symm ▸ hlt) h0, hn]
  · exact elapsed_nsec_le h0 (nsecWord_le _)

/-- R63, R223: while the source has not gone back, no second is lost to the width of the registers. -/
theorem nanoseconds_elapsed {w s0 s1 : Nat} {n0 n1 : Nsec} (hs1 : s1 < 2 ^ w) (hn0 : n0.toNat ≤ 999999999)
    (hn1 : n1.toNat ≤ 999999999) (hle : nanoseconds s0 n0 ≤ nanoseconds s1 n1) :
    nanoseconds (elapsed w s0 s1 n0 n1).1 (elapsed w s0 s1 n0 n1).2 = nanoseconds s1 n1 - nanoseconds s0 n0 := by
  unfold nanoseconds at *
  obtain hcarry | hborrow := le_or_gt n0.toNat n1.toNat
  · have hsec : (s1 : Int) - s0 = (s1 - s0 : Nat) := by omega
    rw [elapsed_of_le hcarry, toNat_sub_nsec hcarry, hsec, narrow_of_lt (by omega)]
    omega
  · have hsec : (s1 : Int) - s0 - 1 = (s1 - s0 - 1 : Nat) := by omega
    rw [elapsed_of_lt hborrow, toNat_borrow_nsec hborrow hn0, hsec, narrow_of_lt (by omega)]
    omega

/-- Settles O27: both stamps are the true differences from the same start. -/
theorem elapsedTimeIsTrueAndMonotone : Obligations.ElapsedTimeIsTrueAndMonotone := by
  intro w s0 s1 s2 n0 n1 n2 _ hs1 hs2 hn0 hn1 hn2 h01 h12 e1 e2
  have he1 : nanoseconds e1.1 e1.2 = nanoseconds s1 n1 - nanoseconds s0 n0 := nanoseconds_elapsed hs1 hn0 hn1 h01
  have he2 : nanoseconds e2.1 e2.2 = nanoseconds s2 n2 - nanoseconds s0 n0 :=
    nanoseconds_elapsed hs2 hn0 hn2 (h01.trans h12)
  exact ⟨he1, elapsed_nsec_le hn0 hn1, by rw [he1, he2]; exact Nat.sub_le_sub_right h12 _⟩

/-! ## The text line of a sample -/

theorem decimal_eq_toString (n : Nat) : decimal n = toString n := Nat.toString_eq_ofList_toDigits.symm

/-- The digits that `pad9` writes (R131). -/
def nineDigits (n : Nat) : List Char := List.replicate (9 - (Nat.toDigits 10 n).length) '0' ++ Nat.toDigits 10 n

theorem pad9_eq_ofList (n : Nat) : pad9 n = String.ofList (nineDigits n) := rfl

theorem nineDigits_length {n : Nat} (h : n ≤ 999999999) : (nineDigits n).length = 9 := by
  have hlen : (Nat.toDigits 10 n).length ≤ 9 := Nat.toDigits_length 10 n 9 (by omega) (by omega)
  rw [nineDigits, List.length_append, List.length_replicate]
  omega

theorem isDigit_of_mem_nineDigits {n : Nat} {c : Char} (h : c ∈ nineDigits n) : c.isDigit = true := by
  obtain hzero | hdigit := List.mem_append.mp h
  · rw [List.eq_of_mem_replicate hzero]
    rfl
  · exact Nat.isDigit_of_mem_toDigits (by omega) (by omega) hdigit

/-- Zeros on the left do not count. -/
theorem ofDigitChars_replicate_zero (k : Nat) : Nat.ofDigitChars 10 (List.replicate k '0') 0 = 0 := by
  induction k with
  | zero => rfl
  | succ k ih => exact ih

/-- Read back in decimal the nine digits are the number. -/
theorem ofDigitChars_nineDigits (n : Nat) : Nat.ofDigitChars 10 (nineDigits n) 0 = n := by
  rw [nineDigits, Nat.ofDigitChars, List.foldl_append]
  have hzeros := ofDigitChars_replicate_zero (9 - (Nat.toDigits 10 n).length)
  rw [Nat.ofDigitChars] at hzeros
  rw [hzeros]
  exact Nat.ofDigitChars_toDigits (by omega) (by omega)

/-! ## The emission -/

/-- Settles O28: the emission is the exchange, its answer decides, and the line is channel, seconds, the nine digits of
the nanoseconds and the magnitude. -/
theorem samplingEmitsTheRecord : Obligations.SamplingEmitsTheRecord := by
  intro s r
  obtain ⟨henv, hdiag⟩ := sampleEmit_env_diag s
  have hframe := sampleEmit_frame s
  have hexchange := henv ▸ exchange_afterEmit s.env r
  refine ⟨sampleEmit s, rfl, hframe.transacts_of_exchange hexchange, hdiag, hframe.drvResult, hexchange.keepsMemory,
    fun hok => ?_, sampleEmit_regs_of_fail, fun hnsec => ⟨nineDigits s.regs.tsn.toNat, nineDigits_length hnsec,
      fun c => isDigit_of_mem_nineDigits, ofDigitChars_nineDigits _, ?_⟩⟩
  · rw [sampleEmit_regs_of_ok hok, succCnt_eq_mod]
    rfl
  · simp only [Sample.line, decimal_eq_toString, pad9_eq_ofList, r]

end Sys2Proof.Machine
end

section
/-! PROOFS. ACTUATING (R241, R242), the two exits TERMINATING and ABORTED (R250 to R257), and the two final states
(R253, R258): what the handler of each phase does. -/

namespace Sys2Proof.Machine
open Sys2Proof.Safety

/-! ## ACTUATING -/

/-- Settles O32: limit and increment together stay inside 16 bits, and so does the sum. -/
theorem commandSumNeverOverflows : Obligations.CommandSumNeverOverflows := by
  intro c inc lim _ hlim hc
  have hsum : (cmdNext c inc).toInt = c.toInt + inc.toInt := cmdNext_toInt (by omega)
  exact ⟨hsum, by omega⟩

theorem exceedsLimit_eq_true_iff (c lim : Word16) : exceedsLimit c lim = true ↔ lim.toNat < c.toInt.natAbs := by
  rw [← Bool.not_eq_false, exceedsLimit_eq_false_iff, Nat.not_le]

section
variable {s : State} {n : Nat}

/-- R241: a command above its limit ends the run. -/
theorem actuateStep_of_exceeds (h : exceedsLimit s.regs.cmd s.regs.cfgLim = true) :
    actuateStep s = s.goto 5#3 0#4 := if_pos h

/-- R241: a command within its limit is sent, whatever is answered, and no event is raised. -/
theorem actuateStep_env_diag (h : exceedsLimit s.regs.cmd s.regs.cfgLim = false) :
    (actuateStep s).env = s.env.afterSend (wireVector s.params s.regs.cmd) ∧ (actuateStep s).diag = s.diag := by
  rw [actuateStep, if_neg (Bool.eq_false_iff.mp h)]
  dsimp only
  split <;> exact ⟨rfl, rfl⟩

theorem actuateStep_regs_of_ok (h : exceedsLimit s.regs.cmd s.regs.cfgLim = false)
    (hsend : s.env.sendAnswer (wireVector s.params s.regs.cmd) = .ok n) :
    (actuateStep s).regs
      = { s.regs with cmd := cmdNext s.regs.cmd s.regs.cfgInc, st := 2#3, ph := 0#4 } := by
  rw [actuateStep, if_neg (Bool.eq_false_iff.mp h)]
  dsimp only
  rw [hsend]

theorem actuateStep_regs_of_fail (h : exceedsLimit s.regs.cmd s.regs.cfgLim = false)
    (hsend : s.env.sendAnswer (wireVector s.params s.regs.cmd) = .fail) :
    (actuateStep s).regs = (abortPlain .sinkWriteFailure 4#3 0#4 s).regs := by
  rw [actuateStep, if_neg (Bool.eq_false_iff.mp h)]
  dsimp only
  rw [hsend]
  rfl

end

/-- The vector on the wire is the swap of each element in turn (R86, R243). -/
theorem wireVector_eq_map (p : Params) (c : Word16) :
    wireVector p c = (List.range p.nAct).map fun i => swap16 (cmdElementOf p.cmdDerive i c) := by
  rw [wireVector, commandVector, List.map_map]
  rfl

/-- Settles O31: the test of R241 on the integers chooses between ending the run and the exchange, whose answer
decides. -/
theorem actuatingTestsSendsAndIncrements : Obligations.ActuatingTestsSendsAndIncrements := by
  intro s vec
  have hvec : wireVector s.params s.regs.cmd = vec := wireVector_eq_map ..
  have hframe := actuateStep_frame s
  cases hlimit : exceedsLimit s.regs.cmd s.regs.cfgLim with
  | true =>
    have hlt := (exceedsLimit_eq_true_iff ..).mp hlimit
    rw [actuateStep_of_exceeds hlimit] at hframe
    exact ⟨_, congrArg Host.Outcome.next (actuateStep_of_exceeds hlimit), rfl, rfl, keepsMemory_of_env rfl,
      fun _ => ⟨hframe.silent_of_env rfl, rfl⟩, fun hle => absurd hlt (Nat.not_lt.mpr hle)⟩
  | false =>
    have hle := (exceedsLimit_eq_false_iff ..).mp hlimit
    obtain ⟨henv, hdiag⟩ := actuateStep_env_diag hlimit
    have hexchange := henv ▸ exchange_afterSend s.env (wireVector s.params s.regs.cmd)
    rw [← hvec]
    exact ⟨actuateStep s, rfl, hdiag, hframe.drvResult, hexchange.keepsMemory,
      fun hlt => absurd hlt (Nat.not_lt.mpr hle), fun _ => ⟨hframe.transacts_of_exchange hexchange,
        fun n => actuateStep_regs_of_ok hlimit, actuateStep_regs_of_fail hlimit⟩⟩

/-! ## TERMINATING -/

section
variable {s : State}

/-- R250: whatever is answered, the close is the one transaction and raises no event. -/
theorem terminateClose_env_diag (s : State) :
    (terminateClose s).env = s.env.afterClose ∧ (terminateClose s).diag = s.diag := by
  unfold terminateClose
  dsimp only
  split <;> exact ⟨rfl, rfl⟩

theorem terminateClose_regs_of_ok (h : s.env.closeAnswer = .ok) :
    (terminateClose s).regs = { s.regs with sinkOpen := false, st := 5#3, ph := 1#4 } := by
  rw [terminateClose, h]
  rfl

/-- R250: after a failed close ABORTED goes on with the transports. -/
theorem terminateClose_regs_of_fail (h : s.env.closeAnswer = .fail) :
    (terminateClose s).regs
      = { (abort .sinkWriteFailure 5#3 0#4 0#8 0#16 0#16 1#4 s).regs with sinkOpen := false } := by
  rw [terminateClose, h]
  rfl

/-- R251, R256: the release of the actuator is one transaction when it is owned. -/
theorem releaseActuator_env (s : State) :
    (releaseActuator s).env = if s.regs.actOwned then s.env.afterActRelease else s.env := by
  obtain ⟨hact, h⟩ | ⟨hact, h⟩ := releaseActuator_cases s <;> rw [h, hact] <;> rfl

theorem releaseActuator_diag (s : State) : (releaseActuator s).diag = s.diag := by
  obtain ⟨-, h⟩ | ⟨-, h⟩ := releaseActuator_cases s <;> rw [h]

theorem terminateActuator_regs (s : State) :
    (terminateActuator s).regs = { s.regs with actOwned := false, st := 5#3, ph := 2#4 } := by
  rw [terminateActuator, State.goto, releaseActuator_regs]

theorem abortActuator_regs (s : State) :
    (abortActuator s).regs = { s.regs with actOwned := false, st := 7#3, ph := 2#4 } := by
  rw [abortActuator, State.goto, releaseActuator_regs]

/-- R255: whether the sink was open or not, it is closed after. -/
theorem abortClose_regs (s : State) :
    (abortClose s).regs = { s.regs with sinkOpen := false, st := 7#3, ph := 1#4 } := by
  unfold abortClose
  split_ifs with hopen
  · rfl
  · rw [← Bool.eq_false_of_not_eq_true hopen, State.goto]

/-- R255: the close is one transaction when the sink is open, whatever is answered. -/
theorem abortClose_env (s : State) :
    (abortClose s).env = if s.regs.sinkOpen then s.env.afterClose else s.env := by
  unfold abortClose
  split_ifs <;> rfl

theorem abortClose_diag (s : State) : (abortClose s).diag = s.diag := by
  unfold abortClose
  split_ifs <;> rfl

/-- R257: whether the bus was owned or not, it is not owned after. -/
theorem abortBus_regs (s : State) :
    (abortBus s).regs = { s.regs with busOwned := false, st := 7#3, ph := 3#4 } := by
  unfold abortBus
  split_ifs with howned
  · rfl
  · rw [← Bool.eq_false_of_not_eq_true howned, State.goto]

theorem abortBus_env (s : State) : (abortBus s).env = if s.regs.busOwned then s.env.afterRelease else s.env := by
  unfold abortBus
  split_ifs <;> rfl

theorem abortBus_diag (s : State) : (abortBus s).diag = s.diag := by
  unfold abortBus
  split_ifs <;> rfl

end

/-- A handler that releases a resource exactly when its flag shows it keeps the device registers, and performs the
release or nothing. -/
theorem HandlerFrame.releases {q : Script} {x : Txn} {st : StCode} {ph : Phase} {s t : State} {owned : Bool} {e : Env}
    (h : HandlerFrame st ph s t) (henv : t.env = if owned then e else s.env) (hx : Exchange q x s.env e) :
    KeepsMemory s t ∧ (owned = true → Transacts q [x] s t) ∧ (owned = false → Silent s t) := by
  cases owned with
  | true =>
    have henv' : t.env = e := henv
    have hexchange := henv' ▸ hx
    exact ⟨hexchange.keepsMemory, fun _ => h.transacts_of_exchange hexchange, nofun⟩
  | false => exact ⟨keepsMemory_of_env henv, nofun, fun _ => h.silent_of_env henv⟩

/-- Settles O34: the close, whose answer decides, the release of an owned actuator, and the release of the bus. -/
theorem terminatingClosesAndReleases : Obligations.TerminatingClosesAndReleases := by
  intro s
  refine ⟨⟨terminateClose s, rfl, ?_⟩, ⟨terminateActuator s, rfl, ?_⟩, ⟨terminateBus s, rfl, ?_⟩⟩
  · obtain ⟨henv, hdiag⟩ := terminateClose_env_diag s
    have hframe := terminateClose_frame s
    have hexchange := henv ▸ exchange_afterClose s.env
    exact ⟨hframe.transacts_of_exchange hexchange, hdiag, hframe.drvResult, hexchange.keepsMemory,
      terminateClose_regs_of_ok, terminateClose_regs_of_fail⟩
  · have hframe := terminateActuator_frame s
    obtain ⟨hmemory, howned, hnot⟩ := hframe.releases (releaseActuator_env s) (exchange_afterActRelease s.env)
    exact ⟨releaseActuator_diag s, hframe.drvResult, hmemory, terminateActuator_regs s, howned, hnot⟩
  · have hexchange := exchange_afterRelease s.env
    exact ⟨(terminateBus_frame s).transacts_of_exchange hexchange, rfl, rfl,
      hexchange.keepsMemory (t := terminateBus s), rfl⟩

/-! ## ABORTED -/

/-- Settles O35: three releases, each by its own flag. -/
theorem abortedReleasesWhatIsOwned : Obligations.AbortedReleasesWhatIsOwned := by
  intro s
  refine ⟨⟨abortClose s, rfl, ?_⟩, ⟨abortActuator s, rfl, ?_⟩, ⟨abortBus s, rfl, ?_⟩⟩
  · have hframe := abortClose_frame s
    obtain ⟨hmemory, howned, hnot⟩ := hframe.releases (abortClose_env s) (exchange_afterClose s.env)
    exact ⟨abortClose_diag s, hframe.drvResult, hmemory, abortClose_regs s, howned, hnot⟩
  · have hframe := abortActuator_frame s
    obtain ⟨hmemory, howned, hnot⟩ := hframe.releases (releaseActuator_env s) (exchange_afterActRelease s.env)
    exact ⟨releaseActuator_diag s, hframe.drvResult, hmemory, abortActuator_regs s, howned, hnot⟩
  · have hframe := abortBus_frame s
    obtain ⟨hmemory, howned, hnot⟩ := hframe.releases (abortBus_env s) (exchange_afterRelease s.env)
    exact ⟨abortBus_diag s, hframe.drvResult, hmemory, abortBus_regs s, howned, hnot⟩

/-! ## The final states -/

theorem doneOutput_iff (r : Regs) : doneOutput r = true ↔ r.st = 6#3 := by
  simp [doneOutput]

theorem abortedOutput_iff (r : Regs) : abortedOutput r = true ↔ r.st = 7#3 ∧ r.ph = 3#4 := by
  simp [abortedOutput]

section
variable {s : State}

/-- R253: DONE ends a run without an error, and nothing is owned. -/
theorem done_of_inv (h : Inv s) (hst : s.regs.st = 6#3) :
    s.regs.err = 0#3 ∧ s.regs.busOwned = false ∧ s.regs.sinkOpen = false ∧ s.regs.actOwned = false := by
  obtain ⟨herr, -⟩ := h.errorRecord.2 (by simp [hst])
  exact ⟨herr, h.ownership.1 (.inr hst)⟩

/-- R258: the last phase of ABORTED ends a run with an error, and nothing is owned. -/
theorem aborted_of_inv (h : Inv s) (hst : s.regs.st = 7#3) (hph : s.regs.ph = 3#4) :
    s.regs.err ≠ 0#3 ∧ s.regs.busOwned = false ∧ s.regs.sinkOpen = false ∧ s.regs.actOwned = false := by
  obtain ⟨-, -, hregs⟩ := inv_iff.mp h
  obtain ⟨herr, -, -, -, hsink, hact, hbus, -⟩ := (regsOk_aborted_iff hst).mp hregs
  refine ⟨fun hzero => by simp [hzero] at herr, hbus hph, hsink (by simp [hph]), hact (by simp [hph])⟩

end

/-- Settles O36: the two outputs name the two final states, of which the invariant says the rest. -/
theorem finalHandlersChangeNothing : Obligations.FinalHandlersChangeNothing := by
  intro s
  rw [doneOutput_iff, abortedOutput_iff]
  refine ⟨rfl, rfl, Iff.rfl, Iff.rfl, fun hinv hst => ?_, fun hinv ⟨hst, hph⟩ => ?_, fun hinv hfinal => ?_⟩
  · obtain ⟨herr, -⟩ := done_of_inv hinv hst
    exact herr
  · obtain ⟨herr, -⟩ := aborted_of_inv hinv hst hph
    exact herr
  · obtain hst | ⟨hst, hph⟩ := hfinal
    · obtain ⟨-, hreleased⟩ := done_of_inv hinv hst
      exact hreleased
    · obtain ⟨-, hreleased⟩ := aborted_of_inv hinv hst hph
      exact hreleased

end Sys2Proof.Machine
end

section
/-! PROOFS. Control flow: every handler goes to a successor of R259, the final states stay (R253, R258), and a run
without the actuator never actuates (R232). -/

namespace Sys2Proof.Machine
open Sys2Proof.Safety

/-! ## The step functions -/

/-- Which step function the handler of (ST, PH) is, by the lines of R259. -/
inductive Handles (s : State) : StCode → Phase → State → Prop where
  | idle : Handles s 0#3 0#4 (idleStep s)
  | captureTime : Handles s 1#3 0#4 (initCaptureTime s)
  | openBus : Handles s 1#3 1#4 (initOpenBus s)
  | openSink : Handles s 1#3 2#4 (initOpenSink s)
  | writeEntry {ph : Phase} : 3#4 ≤ ph → ph ≤ 8#4 → Handles s 1#3 ph (initWriteStep ph s)
  | checkIdentity : Handles s 1#3 9#4 (initCheckIdentity s)
  | poll : Handles s 2#3 0#4 (pollStep s)
  | readHigh : Handles s 3#3 0#4 (sampleHigh s)
  | readLow : Handles s 3#3 1#4 (sampleLow s)
  | stamp : Handles s 3#3 2#4 (sampleTime s)
  | emit : Handles s 3#3 3#4 (sampleEmit s)
  | actuate : Handles s 4#3 0#4 (actuateStep s)
  | close : Handles s 5#3 0#4 (terminateClose s)
  | terminateActuator : Handles s 5#3 1#4 (terminateActuator s)
  | terminateBus : Handles s 5#3 2#4 (terminateBus s)
  | done : Handles s 6#3 0#4 s
  | abortClose : Handles s 7#3 0#4 (abortClose s)
  | abortActuator : Handles s 7#3 1#4 (abortActuator s)
  | abortBus : Handles s 7#3 2#4 (abortBus s)
  | aborted : Handles s 7#3 3#4 s

section
variable {ph : Phase} {s u : State}

theorem execStInitializing_handles (h : execStInitializing ph s = .next u) : Handles s 1#3 ph u := by
  unfold execStInitializing at h
  split at h <;> cases h
  case h_1 hph => exact BitVec.eq_of_toNat_eq (y := 0#4) hph ▸ .captureTime
  case h_2 hph => exact BitVec.eq_of_toNat_eq (y := 1#4) hph ▸ .openBus
  case h_3 hph => exact BitVec.eq_of_toNat_eq (y := 2#4) hph ▸ .openSink
  case h_10 hph => exact BitVec.eq_of_toNat_eq (y := 9#4) hph ▸ .checkIdentity
  all_goals exact .writeEntry (by bv_omega) (by bv_omega)

theorem execStSampling_handles (h : execStSampling ph s = .next u) : Handles s 3#3 ph u := by
  unfold execStSampling at h
  split at h <;> cases h
  case h_1 hph => exact BitVec.eq_of_toNat_eq (y := 0#4) hph ▸ .readHigh
  case h_2 hph => exact BitVec.eq_of_toNat_eq (y := 1#4) hph ▸ .readLow
  case h_3 hph => exact BitVec.eq_of_toNat_eq (y := 2#4) hph ▸ .stamp
  case h_4 hph => exact BitVec.eq_of_toNat_eq (y := 3#4) hph ▸ .emit

theorem execStTerminating_handles (h : execStTerminating ph s = .next u) : Handles s 5#3 ph u := by
  unfold execStTerminating at h
  split at h <;> cases h
  case h_1 hph => exact BitVec.eq_of_toNat_eq (y := 0#4) hph ▸ .close
  case h_2 hph => exact BitVec.eq_of_toNat_eq (y := 1#4) hph ▸ .terminateActuator
  case h_3 hph => exact BitVec.eq_of_toNat_eq (y := 2#4) hph ▸ .terminateBus

theorem execStAborted_handles (h : execStAborted ph s = .next u) : Handles s 7#3 ph u := by
  unfold execStAborted at h
  split at h <;> cases h
  case h_1 hph => exact BitVec.eq_of_toNat_eq (y := 0#4) hph ▸ .abortClose
  case h_2 hph => exact BitVec.eq_of_toNat_eq (y := 1#4) hph ▸ .abortActuator
  case h_3 hph => exact BitVec.eq_of_toNat_eq (y := 2#4) hph ▸ .abortBus
  case h_4 hph => exact BitVec.eq_of_toNat_eq (y := 3#4) hph ▸ .aborted

/-- The handler that (ST, PH) selects is the step function of its line (R141, R259). -/
theorem exec_handler_handles {st : StCode} (h : exec (decodeFsm (pcCode st ph)) s = .next u) : Handles s st ph u := by
  rw [decodeFsm_pcCode] at h
  split at h
  case h_1 hst =>
    obtain rfl := BitVec.eq_of_toNat_eq (y := 0#3) hst
    simp only [exec, execStIdle] at h
    split at h <;> cases h
    subst ph
    exact .idle
  case h_2 hst => exact BitVec.eq_of_toNat_eq (y := 1#3) hst ▸ execStInitializing_handles h
  case h_3 hst =>
    obtain rfl := BitVec.eq_of_toNat_eq (y := 2#3) hst
    simp only [exec, execStPolling] at h
    split at h <;> cases h
    subst ph
    exact .poll
  case h_4 hst => exact BitVec.eq_of_toNat_eq (y := 3#3) hst ▸ execStSampling_handles h
  case h_5 hst =>
    obtain rfl := BitVec.eq_of_toNat_eq (y := 4#3) hst
    simp only [exec, execStActuating] at h
    split at h <;> cases h
    subst ph
    exact .actuate
  case h_6 hst => exact BitVec.eq_of_toNat_eq (y := 5#3) hst ▸ execStTerminating_handles h
  case h_7 hst =>
    obtain rfl := BitVec.eq_of_toNat_eq (y := 6#3) hst
    simp only [exec, execStDone] at h
    split at h <;> cases h
    subst ph
    exact .done
  case h_8 =>
    simp only [imp_false] at *
    obtain rfl : st = 7#3 := by bv_omega
    exact execStAborted_handles h

end

/-! ## The successors -/

/-- The program counter as the pair (ST, PH). -/
abbrev pcPair (s : State) : StCode × Phase := (s.regs.st, s.regs.ph)

/-- R230: the end of an iteration leads to POLLING, ACTUATING or TERMINATING. -/
theorem advanceRegs_pc (w : Nat) (r : Regs) :
    ((advanceRegs w r).st, (advanceRegs w r).ph) ∈ [(2#3, 0#4), (4#3, 0#4), (5#3, 0#4)] := by
  obtain ⟨-, h⟩ | ⟨-, -, -, h⟩ | ⟨-, -, h⟩ := advanceRegs_cases w r <;> rw [h] <;> simp

section
variable (s : State)

theorem idleStep_successor (hidle : AtIdle s.regs) : pcPair (idleStep s) ∈ successors s.params 0#3 0#4 := by
  have hpc : pcPair s = (0#3, 0#4) := Prod.ext hidle.1 hidle.2
  unfold idleStep
  split_ifs
  · exact .tail _ (.head _)
  · exact .tail _ (.tail _ (.head _))
  · exact hpc ▸ .head _

theorem initOpenBus_successor : pcPair (initOpenBus s) ∈ successors s.params 1#3 1#4 := by
  cases h : s.env.openAnswer with
  | ok => rw [pcPair, initOpenBus_regs_of_ok h]; exact .head _
  | fail => rw [pcPair, initOpenBus_regs_of_fail h]; exact .tail _ (.head _)

theorem initOpenSink_successor : pcPair (initOpenSink s) ∈ successors s.params 1#3 2#4 := by
  cases h : s.env.sinkOpenAnswer with
  | ok => rw [pcPair, initOpenSink_regs_of_ok h]; exact .head _
  | fail => rw [pcPair, initOpenSink_regs_of_fail h]; exact .tail _ (.head _)

/-- R206: phases 3 to 8 of INITIALIZING have the next phase and ABORTED for successors. -/
theorem successors_of_write (p : Params) {ph : Phase} (hlo : 3#4 ≤ ph) (hhi : ph ≤ 8#4) :
    successors p 1#3 ph = [(1#3, ph + 1#4), (7#3, 0#4)] := by
  have hph : ph ∈ [3#4, 4#4, 5#4, 6#4, 7#4, 8#4] := by
    revert ph
    decide
  simp only [List.mem_cons, List.not_mem_nil, or_false] at hph
  obtain rfl | rfl | rfl | rfl | rfl | rfl := hph <;> rfl

theorem initWriteStep_successor {ph : Phase} (hlo : 3#4 ≤ ph) (hhi : ph ≤ 8#4) :
    pcPair (initWriteStep ph s) ∈ successors s.params 1#3 ph := by
  rw [successors_of_write s.params hlo hhi]
  cases h : s.memWrite (initEntry s.params (ph.toNat - 3)).1 (initEntry s.params (ph.toNat - 3)).2 with
  | ok => rw [initWriteStep_of_ok rfl h]; exact .head _
  | fail => rw [initWriteStep_of_fail rfl h]; exact .tail _ (.head _)

theorem initCheckIdentity_successor : pcPair (initCheckIdentity s) ∈ successors s.params 1#3 9#4 := by
  cases h : s.env.readAnswer s.params.aDeviceId with
  | ok w =>
    by_cases hid : swap16 w = Config.idExpected
    · rw [pcPair, initCheckIdentity_regs_of_match h hid]; exact .head _
    · rw [pcPair, initCheckIdentity_regs_of_mismatch h hid]; exact .tail _ (.head _)
  | fail => rw [pcPair, initCheckIdentity_regs_of_fail h]; exact .tail _ (.head _)

/-- R211: a status read stays in POLLING or goes to SAMPLING. -/
theorem pollRead_pc (hst : s.regs.st = 2#3) (hph : s.regs.ph = 0#4) :
    pcPair (pollRead s) ∈ [(2#3, 0#4), (3#3, 0#4)] := by
  have hpc : pcPair s = (2#3, 0#4) := Prod.ext hst hph
  cases h : s.env.readAnswer s.params.aStatus with
  | ok w =>
    by_cases hready : swap16 w &&& s.params.drdyMask = 0#16
    · rw [pollRead_of_not_ready h hready]; exact hpc ▸ .head _
    · rw [pollRead_of_ready h hready]; exact .tail _ (.head _)
  | fail => rw [pollRead_of_fail h]; exact hpc ▸ .head _

/-- TERMINATING is a successor of POLLING with HAS_STOP only, and ABORTED with a poll limit only. -/
theorem pollStep_successor (hst : s.regs.st = 2#3) (hph : s.regs.ph = 0#4) :
    pcPair (pollStep s) ∈ successors s.params 2#3 0#4 := by
  have hsuccessors : successors s.params 2#3 0#4 = [(2#3, 0#4), (3#3, 0#4)]
      ++ (if s.params.hasStop then [(5#3, 0#4)] else []) ++ (if s.params.pollLimit ≠ 0 then [(7#3, 0#4)] else []) := rfl
  rw [hsuccessors]
  by_cases hstop : s.params.hasStop = true ∧ s.host.stopReq = true
  · rw [pollStep_of_stop hstop, if_pos hstop.1]
    exact List.mem_append_left _ (List.mem_append_right _ (.head _))
  by_cases htimeout : s.params.pollLimit ≠ 0 ∧ s.params.pollLimit ≤ s.regs.polls
  · rw [pollStep_of_timeout hstop htimeout, if_pos htimeout.1]
    exact List.mem_append_right _ (.head _)
  · rw [pollStep_of_read hstop htimeout]
    exact List.mem_append_left _ (List.mem_append_left _ (pollRead_pc s hst hph))

theorem sampleHigh_successor : pcPair (sampleHigh s) ∈ successors s.params 3#3 0#4 := by
  cases h : s.env.readAnswer s.params.aDataMsb with
  | ok w => rw [sampleHigh_of_ok h]; exact .head _
  | fail => rw [sampleHigh_of_fail h]; exact .tail _ (advanceRegs_pc ..)

theorem sampleLow_successor : pcPair (sampleLow s) ∈ successors s.params 3#3 1#4 := by
  cases h : s.memRead s.params.aDataLsb with
  | ok l => rw [sampleLow_of_ok h]; exact .head _
  | fail => rw [sampleLow_of_fail h]; exact .tail _ (advanceRegs_pc ..)

theorem sampleEmit_successor : pcPair (sampleEmit s) ∈ successors s.params 3#3 3#4 := by
  have hsuccessors : successors s.params 3#3 3#4 = [(2#3, 0#4), (4#3, 0#4), (5#3, 0#4)] ++ [(7#3, 0#4)] := rfl
  rw [hsuccessors]
  cases h : s.env.emitAnswer (sampleRecord s.regs) with
  | ok => rw [pcPair, sampleEmit_regs_of_ok h]; exact List.mem_append_left _ (advanceRegs_pc ..)
  | fail => rw [pcPair, sampleEmit_regs_of_fail h]; exact List.mem_append_right _ (.head _)

theorem actuateStep_successor : pcPair (actuateStep s) ∈ successors s.params 4#3 0#4 := by
  cases hlimit : exceedsLimit s.regs.cmd s.regs.cfgLim with
  | true => rw [actuateStep_of_exceeds hlimit]; exact .tail _ (.head _)
  | false =>
    cases h : s.env.sendAnswer (wireVector s.params s.regs.cmd) with
    | ok n => rw [pcPair, actuateStep_regs_of_ok hlimit h]; exact .head _
    | fail => rw [pcPair, actuateStep_regs_of_fail hlimit h]; exact .tail _ (.tail _ (.head _))

theorem terminateClose_successor : pcPair (terminateClose s) ∈ successors s.params 5#3 0#4 := by
  cases h : s.env.closeAnswer with
  | ok => rw [pcPair, terminateClose_regs_of_ok h]; exact .head _
  | fail => rw [pcPair, terminateClose_regs_of_fail h]; exact .tail _ (.head _)

end

/-- Every step function goes to a successor of its line of R259. -/
theorem Handles.successor {s u : State} (h : Handles s s.regs.st s.regs.ph u) :
    pcPair u ∈ successors s.params s.regs.st s.regs.ph := by
  generalize hst : s.regs.st = st, hph : s.regs.ph = ph at h
  cases h with
  | idle => exact idleStep_successor s ⟨hst, hph⟩
  | captureTime => exact .head _
  | openBus => exact initOpenBus_successor s
  | openSink => exact initOpenSink_successor s
  | writeEntry hlo hhi => exact initWriteStep_successor s hlo hhi
  | checkIdentity => exact initCheckIdentity_successor s
  | poll => exact pollStep_successor s hst hph
  | readHigh => exact sampleHigh_successor s
  | readLow => exact sampleLow_successor s
  | stamp => exact .head _
  | emit => exact sampleEmit_successor s
  | actuate => exact actuateStep_successor s
  | close => exact terminateClose_successor s
  | terminateActuator => rw [pcPair, terminateActuator_regs]; exact .head _
  | terminateBus => exact .head _
  | abortClose => rw [pcPair, abortClose_regs]; exact .head _
  | abortActuator => rw [pcPair, abortActuator_regs]; exact .head _
  | abortBus => rw [pcPair, abortBus_regs]; exact .head _
  | done | aborted => rw [pcPair, hst, hph]; exact .head _

/-- Settles O44: the step is that of the handler, which goes to a successor. -/
theorem stepFollowsTheControlFlowGraph : Obligations.StepFollowsTheControlFlowGraph := by
  rintro s t ⟨-, hr, hn⟩ h
  obtain ⟨u, he, -, rfl⟩ := step_of_handler hn hr h
  exact (exec_handler_handles he).successor (s := s.begin)

/-! ## The final states -/

/-- R253, R258: the handlers of the final states change nothing. -/
theorem Handles.eq_of_final {s u : State} {r : Regs} (h : Handles s r.st r.ph u) (hfinal : Final r) : u = s := by
  obtain ⟨hst, hph⟩ | ⟨hst, hph⟩ := hfinal <;> rw [hst, hph] at h <;> cases h <;> rfl

/-- Settles O51: the handler of a final state leaves `s.begin`, which has the registers and the environment of `s`. -/
theorem onlyResetLeavesAFinalState : Obligations.OnlyResetLeavesAFinalState := by
  rintro s t ⟨-, hr, hn⟩ hfinal h
  obtain ⟨u, he, -, rfl⟩ := step_of_handler hn hr h
  obtain rfl := (exec_handler_handles he).eq_of_final hfinal
  exact ⟨rfl, rfl⟩

/-! ## A run without the actuator -/

/-- The end of an iteration leaves the commanded value alone (R230). -/
theorem advanceRegs_cmd (w : Nat) (r : Regs) : (advanceRegs w r).cmd = r.cmd := by
  obtain ⟨-, h⟩ | ⟨-, -, -, h⟩ | ⟨-, -, h⟩ := advanceRegs_cases w r <;> rw [h]

/-- R241: outside IDLE and ACTUATING no edge changes the commanded value. -/
theorem RegsStep.cmd_eq {s : State} {r : Regs} (hstep : RegsStep s r) (h0 : s.regs.st ≠ 0#3) (h4 : s.regs.st ≠ 4#3) :
    r.cmd = s.regs.cmd := by
  cases hstep with
  | started hidle | rejected hidle => exact absurd hidle.1 h0
  | sent hst => exact absurd hst h4
  | skipped | emitted => exact advanceRegs_cmd ..
  | waited | timeCaptured | busOpened | sinkOpened | entryWritten | identified | aborted | stopped | polled | ready
  | highRead | lowRead | stamped | closed | closeFailed | actuatorReleased | busReleased | abortClosed
  | abortActuatorReleased | abortBusReleased => rfl

/-- R251, R254: without the actuator there is nothing to release on either exit. -/
theorem actOwned_of_exit {s : State} (h : Inv s) (hact : s.regs.cfgAct = false)
    (hst : s.regs.st = 5#3 ∨ s.regs.st = 7#3) : s.regs.actOwned = false := by
  obtain ⟨-, -, -, hterminating, haborted⟩ := h.ownership
  obtain hst | hst := hst
  · obtain ⟨-, -, howned⟩ := hterminating hst
    simp [howned, hact]
  · obtain ⟨-, -, -, howned⟩ := haborted hst
    exact howned hact

/-- R259: the steps that may use the ACT port. -/
theorem pc_of_onActPort {p : Params} {st : StCode} {ph : Phase} {x : Txn} (h : transactionListed p st ph x)
    (hx : onActPort x = true) : (st, ph) = (4#3, 0#4) ∨ (st, ph) = (5#3, 1#4) ∨ (st, ph) = (7#3, 1#4) := by
  cases x with
  | actSend => exact .inl h
  | actRelease => exact .inr h
  | busOpen | busRead | busWrite | busRelease | timeNow | sinkOpen | sinkEmit | sinkClose => cases hx

/-- R251, R256: the two releasing steps use no port when the actuator is not owned. -/
theorem Handles.env_of_not_owned {s u : State} {st : StCode} {ph : Phase} (h : Handles s st ph u)
    (hpc : (st, ph) = (5#3, 1#4) ∨ (st, ph) = (7#3, 1#4)) (howned : s.regs.actOwned = false) : u.env = s.env := by
  have henv : (releaseActuator s).env = s.env := by rw [releaseActuator_env, howned]; rfl
  obtain hpc | hpc := hpc <;> obtain ⟨rfl, rfl⟩ := Prod.mk.inj hpc
  all_goals cases h; exact henv

/-- R232: with the actuator disabled the invariant has no place for ACTUATING, and SCT is 0. -/
theorem not_actuating_of_inv {s : State} (h : Inv s) (hact : s.regs.cfgAct = false) :
    s.regs.st ≠ 4#3 ∧ s.regs.sct = 0 := by
  obtain ⟨-, -, hregs⟩ := inv_iff.mp h
  obtain ⟨-, -, hsct, -, -⟩ := hregs.counted
  obtain ⟨-, -, -, hboundary, -⟩ := hregs.countedAtPc
  refine ⟨fun hst => ?_, hsct hact⟩
  obtain ⟨hon, -⟩ := hboundary hst
  exact Bool.noConfusion (hact.symm.trans hon)

/-- R232: with the actuator disabled and not owned, a handler outside ACTUATING adds no transaction of the ACT port. -/
theorem HandlerFrame.no_act {s u : State} {st : StCode} {ph : Phase} (hframe : HandlerFrame st ph s u)
    (h : Handles s st ph u) (hlegal : paramsLegal s.params = true) (h4 : st ≠ 4#3)
    (howned : st = 5#3 ∨ st = 7#3 → s.regs.actOwned = false) :
    ∃ l, u.env.trace = s.env.trace ++ l ∧ ∀ x ∈ l, onActPort x = false := by
  obtain hsame | ⟨x, htrace, hlisted⟩ := hframe.transaction
  · exact ⟨[], by simp [hsame], by simp⟩
  · refine ⟨[x], htrace, fun y hy => ?_⟩
    obtain rfl := List.mem_singleton.mp hy
    refine Bool.eq_false_of_not_eq_true fun hact => ?_
    obtain hpc | hexit := pc_of_onActPort (hlisted hlegal) hact
    · exact h4 (Prod.mk.inj hpc).1
    · have hst : st = 5#3 ∨ st = 7#3 := hexit.imp (fun hpc => (Prod.mk.inj hpc).1) fun hpc => (Prod.mk.inj hpc).1
      have henv := h.env_of_not_owned hexit (howned hst)
      simp [henv] at htrace

/-- Settles O54: the invariant after the step excludes ACTUATING and fixes SCT; the edge keeps CMD; and of the steps
that may use the ACT port ACTUATING is not taken and the other two own nothing to release. -/
theorem runWithoutActuatorNeverActuates : Obligations.RunWithoutActuatorNeverActuates := by
  rintro s t hinv ⟨hp, hr, hn⟩ h0 hact h
  have hinv' := inv_of_step hinv h
  obtain ⟨h4, -⟩ := not_actuating_of_inv hinv hact
  obtain ⟨u, he, hframe, rfl⟩ := step_of_handler hn hr h
  have hedge := (exec_handler_effect (s := s.begin) he).edge
  obtain ⟨-, -, -, -, -, hsame⟩ := hedge.sameConfig fun hidle => h0 hidle.1
  obtain ⟨h4', hsct'⟩ := not_actuating_of_inv hinv' (hsame.trans hact)
  have howned : s.regs.st = 5#3 ∨ s.regs.st = 7#3 → s.regs.actOwned = false := actOwned_of_exit hinv hact
  exact ⟨h4', hsct', hedge.cmd_eq h0 h4, hframe.no_act (exec_handler_handles he) hp h4 howned⟩

end Sys2Proof.Machine
end

section
/-! PROOFS. Runs: the wait for data-ready (R214, R325), and the three steps of every exit (R249 to R258). -/

namespace Sys2Proof.Machine
open Sys2Proof.Safety

/-! ## One step of a handler outside IDLE -/

/-- What a handler's step from `s` by the step function's result `u` leads to: the registers and the environment are
those of `u`, and the host's next levels stand on the port. -/
structure StepsTo (s u t : State) : Prop where
  /-- The step. -/
  step : step s = .next t
  /-- The registers. -/
  regs : t.regs = u.regs
  /-- The environment. -/
  env : t.env = u.env
  /-- No parameter changed. -/
  params : t.params = s.params
  /-- The levels of the next step. -/
  host : t.host = s.hostSched.headD s.host
  /-- The levels after it. -/
  hostSched : t.hostSched = s.hostSched.tail

/-- Outside IDLE the step function `f` of (ST, PH) makes the step, with any driver program. -/
theorem stepsTo_of_handler {s : State} {st : StCode} {ph : Phase} {f : State → State}
    (hf : ∀ v, exec (decodeFsm (pcCode st ph)) v = .next (f v)) (hp : paramsLegal s.params = true)
    (hr : s.host.rst = false) (hst : s.regs.st = st) (hph : s.regs.ph = ph) (h0 : st ≠ 0#3) :
    ∃ t, StepsTo s (f s.begin) t := by
  obtain ⟨hparams, hhost, hsched, -⟩ := (exec_handler_frame (hf s.begin)).surroundings
  have hfetch := State.fetch_of_handler (s := s) (.inr fun hidle => h0 (hst ▸ hidle.1))
  rw [hst, hph] at hfetch
  exact ⟨(f s.begin).settle.tick, step_of_exec hp hr hfetch (hf s.begin), rfl, rfl, hparams,
    by rw [State.tick_host, State.settle_host, State.settle_hostSched, hhost, hsched]; rfl,
    by rw [State.tick_hostSched, State.settle_hostSched, hsched]; rfl⟩

/-! ## The wait for data-ready -/

/-- What R214 and R325 assume: the machine polls without a limit, and no level that the host puts up is a reset or a
stop request. -/
structure Waiting (s : State) : Prop where
  /-- The parameters are legal. -/
  legal : paramsLegal s.params = true
  /-- POLLING. -/
  st : s.regs.st = 2#3
  /-- Its one phase. -/
  ph : s.regs.ph = 0#4
  /-- No poll timeout. -/
  noLimit : s.params.pollLimit = 0
  /-- Neither `rst` nor a stop request, now and later. -/
  quiet : ∀ h ∈ s.host :: s.hostSched, h.rst = false ∧ ¬ (s.params.hasStop = true ∧ h.stopReq = true)

/-- The environment's next answer to a status read is not data-ready. -/
def NotReady (p : Params) (e : Env) : Prop :=
  e.readAnswer p.aStatus = .fail ∨ ∃ w, e.readAnswer p.aStatus = .ok w ∧ swap16 w &&& p.drdyMask = 0#16

/-- A status read that does not show data-ready changes STAT and POLLS at most. -/
theorem pollRead_regs_of_notReady {s : State} (h : NotReady s.params s.env) :
    (pollRead s).regs.st = s.regs.st ∧ (pollRead s).regs.ph = s.regs.ph ∧ (pollRead s).regs.nit = s.regs.nit
      ∧ (pollRead s).regs.err = s.regs.err := by
  obtain hfail | ⟨w, hok, hclear⟩ := h
  · rw [pollRead_of_fail hfail]
    exact ⟨rfl, rfl, rfl, rfl⟩
  · rw [pollRead_of_not_ready hok hclear]
    exact ⟨rfl, rfl, rfl, rfl⟩

/-- The levels of the steps after are among those that were listed. -/
theorem StepsTo.host_mem {s u t : State} (h : StepsTo s u t) {x : HostIn} (hx : x ∈ t.host :: t.hostSched) :
    x ∈ s.host :: s.hostSched := by
  rw [h.host, h.hostSched] at hx
  cases hsched : s.hostSched with
  | nil => simpa [hsched] using hx
  | cons y rest =>
    rw [hsched] at hx
    exact List.mem_cons_of_mem _ hx

/-- While it waits a step is one status read, and the machine waits on. -/
theorem Waiting.step {s : State} (h : Waiting s) (hanswer : NotReady s.params s.env) :
    ∃ t, StepsTo s (pollRead s.begin) t ∧ Waiting t := by
  obtain ⟨hrst, hstop⟩ := h.quiet _ List.mem_cons_self
  obtain ⟨t, ht⟩ := stepsTo_of_handler (st := 2#3) (ph := 0#4) (f := pollStep) (fun _ => rfl) h.legal hrst h.st h.ph
    (by decide)
  rw [pollStep_of_read (s := s.begin) hstop fun hlimit => hlimit.1 h.noLimit] at ht
  obtain ⟨hst, hph, -⟩ := pollRead_regs_of_notReady (s := s.begin) hanswer
  exact ⟨t, ht, ht.params ▸ h.legal, (congrArg Regs.st ht.regs).trans (hst.trans h.st),
    (congrArg Regs.ph ht.regs).trans (hph.trans h.ph), ht.params ▸ h.noLimit,
    fun x hx => ht.params ▸ h.quiet x (ht.host_mem hx)⟩

/-- Any number of polls: the status reads are the only transactions, and the machine waits on. -/
theorem Waiting.run (n : Nat) {s : State} (h : Waiting s)
    (hanswers : ∀ k < n, NotReady s.params ((Env.afterRead s.params.aStatus)^[k] s.env)) :
    ∃ t, Host.Core.run Sys2Proof.core n s = .next t ∧ Waiting t
      ∧ t.env = (Env.afterRead s.params.aStatus)^[n] s.env ∧ t.env.trace.length = s.env.trace.length + n
      ∧ t.regs.nit = s.regs.nit ∧ t.regs.err = s.regs.err := by
  induction n generalizing s with
  | zero => exact ⟨s, rfl, h, rfl, rfl, rfl, rfl⟩
  | succ n ih =>
    have hfirst : NotReady s.params s.env := hanswers 0 n.succ_pos
    obtain ⟨u, hu, hwaiting⟩ := h.step hfirst
    have henv : u.env = s.env.afterRead s.params.aStatus := hu.env.trans (pollRead_env s.begin)
    obtain ⟨-, -, hnit, herr⟩ := pollRead_regs_of_notReady (s := s.begin) hfirst
    obtain ⟨t, hrun, hwaiting', henv', hlength, hnit', herr'⟩ := ih hwaiting fun k hk => by
      rw [hu.params, henv, ← Function.iterate_succ_apply]
      exact hanswers (k + 1) (Nat.succ_lt_succ hk)
    refine ⟨t, (run_succ n hu.step).trans hrun, hwaiting', ?_, ?_, ?_, ?_⟩
    · rw [henv', hu.params, henv, Function.iterate_succ_apply]
    · rw [hlength, henv, Env.afterRead_trace, List.length_append, List.length_singleton]
      omega
    · exact hnit'.trans ((congrArg Regs.nit hu.regs).trans hnit)
    · exact herr'.trans ((congrArg Regs.err hu.regs).trans herr)

/-- Settles O59, by induction on the number of polls. -/
theorem waitForDataReadyIsUnbounded : Obligations.WaitForDataReadyIsUnbounded := by
  rintro n s ⟨hp, -, -⟩ hst hph hlimit hquiet a E hanswers
  obtain ⟨t, hrun, hwaiting, henv, hlength, hnit, herr⟩ := Waiting.run n ⟨hp, hst, hph, hlimit, hquiet⟩ hanswers
  exact ⟨t, hrun, hwaiting.st, hwaiting.ph, henv, hlength, hnit, herr⟩

/-! ## The three steps of every exit -/

/-- The machine runs on its own: legal parameters, no reset, and no change of the host's levels to come. -/
structure Undisturbed (s : State) : Prop where
  /-- The parameters are legal. -/
  legal : paramsLegal s.params = true
  /-- `rst` is low. -/
  rst : s.host.rst = false
  /-- The levels stay. -/
  hostSched : s.hostSched = []

/-- Undisturbed and outside IDLE, the machine makes the handler's step and is undisturbed after it. -/
theorem Undisturbed.stepsTo {s : State} (h : Undisturbed s) {st : StCode} {ph : Phase} {f : State → State}
    (hf : ∀ v, exec (decodeFsm (pcCode st ph)) v = .next (f v)) (hst : s.regs.st = st) (hph : s.regs.ph = ph)
    (h0 : st ≠ 0#3) : ∃ t, StepsTo s (f s.begin) t ∧ Undisturbed t := by
  obtain ⟨t, ht⟩ := stepsTo_of_handler hf h.legal h.rst hst hph h0
  refine ⟨t, ht, ht.params ▸ h.legal, ?_, ?_⟩
  · rw [ht.host, h.hostSched]
    exact h.rst
  · rw [ht.hostSched, h.hostSched]
    rfl

/-- The transaction of a release, made when the flag shows the resource. -/
def releaseOf (owned : Bool) (x : Txn) : List Txn := if owned then [x] else []

theorem trace_of_release {e f g : Env} {owned : Bool} {x : Txn} (hg : g = if owned then f else e)
    (hf : f.trace = e.trace ++ [x]) : g.trace = e.trace ++ releaseOf owned x := by
  cases owned with
  | true => rw [hg]; exact hf
  | false => rw [hg]; exact (List.append_nil _).symm

section
variable {s : State}

/-- R256, R257: from phase 1 of ABORTED the two transports are released as owned. -/
theorem aborted_releases_transports (h : Undisturbed s) (hst : s.regs.st = 7#3) (hph : s.regs.ph = 1#4) :
    ∃ t, Host.Core.run Sys2Proof.core 2 s = .next t
      ∧ t.regs = { s.regs with actOwned := false, busOwned := false, st := 7#3, ph := 3#4 }
      ∧ t.env.trace
        = s.env.trace ++ releaseOf s.regs.actOwned .actRelease ++ releaseOf s.regs.busOwned .busRelease := by
  obtain ⟨u, hu, h'⟩ := h.stepsTo (f := abortActuator) (fun _ => rfl) hst hph (by decide)
  have huregs := hu.regs.trans (abortActuator_regs s.begin)
  obtain ⟨t, ht, -⟩ := h'.stepsTo (st := 7#3) (ph := 2#4) (f := abortBus) (fun _ => rfl)
    (congrArg Regs.st huregs) (congrArg Regs.ph huregs) (by decide)
  have hutrace : u.env.trace = s.env.trace ++ releaseOf s.regs.actOwned .actRelease :=
    trace_of_release (hu.env.trans (releaseActuator_env s.begin)) rfl
  have httrace : t.env.trace = u.env.trace ++ releaseOf u.regs.busOwned .busRelease :=
    trace_of_release (ht.env.trans (abortBus_env u.begin)) rfl
  refine ⟨t, (run_succ 1 hu.step).trans (run_succ 0 ht.step), ?_, ?_⟩
  · rw [ht.regs, abortBus_regs, State.begin_regs, huregs]
    rfl
  · rw [httrace, hutrace, huregs]
    rfl

/-- R251, R252: from phase 1 of TERMINATING the actuator is released as owned, then the bus. -/
theorem terminating_releases_transports (h : Undisturbed s) (hst : s.regs.st = 5#3) (hph : s.regs.ph = 1#4) :
    ∃ t, Host.Core.run Sys2Proof.core 2 s = .next t
      ∧ t.regs = { s.regs with actOwned := false, busOwned := false, st := 6#3, ph := 0#4 }
      ∧ t.env.trace = s.env.trace ++ releaseOf s.regs.actOwned .actRelease ++ [.busRelease] := by
  obtain ⟨u, hu, h'⟩ := h.stepsTo (f := terminateActuator) (fun _ => rfl) hst hph (by decide)
  have huregs := hu.regs.trans (terminateActuator_regs s.begin)
  obtain ⟨t, ht, -⟩ := h'.stepsTo (st := 5#3) (ph := 2#4) (f := terminateBus) (fun _ => rfl)
    (congrArg Regs.st huregs) (congrArg Regs.ph huregs) (by decide)
  have hutrace : u.env.trace = s.env.trace ++ releaseOf s.regs.actOwned .actRelease :=
    trace_of_release (hu.env.trans (releaseActuator_env s.begin)) rfl
  have httrace : t.env.trace = u.env.trace ++ [.busRelease] := congrArg Env.trace ht.env
  refine ⟨t, (run_succ 1 hu.step).trans (run_succ 0 ht.step), ?_, by rw [httrace, hutrace]⟩
  rw [ht.regs, terminateBus, State.goto, State.begin_regs, huregs]
  rfl

/-- R255 to R257: the exit of ABORTED closes and releases what the flags show and touches nothing else. -/
theorem aborted_exit (h : Undisturbed s) (hst : s.regs.st = 7#3) (hph : s.regs.ph = 0#4) :
    ∃ t, Host.Core.run Sys2Proof.core 3 s = .next t
      ∧ t.regs = { s.regs with sinkOpen := false, actOwned := false, busOwned := false, st := 7#3, ph := 3#4 }
      ∧ t.env.trace = s.env.trace ++ releaseOf s.regs.sinkOpen (.sinkClose s.env.closeAnswer)
        ++ releaseOf s.regs.actOwned .actRelease ++ releaseOf s.regs.busOwned .busRelease := by
  obtain ⟨u, hu, h'⟩ := h.stepsTo (f := abortClose) (fun _ => rfl) hst hph (by decide)
  have huregs := hu.regs.trans (abortClose_regs s.begin)
  have hutrace : u.env.trace = s.env.trace ++ releaseOf s.regs.sinkOpen (.sinkClose s.env.closeAnswer) :=
    trace_of_release (hu.env.trans (abortClose_env s.begin)) rfl
  obtain ⟨t, hrun, htregs, httrace⟩ :=
    aborted_releases_transports h' (congrArg Regs.st huregs) (congrArg Regs.ph huregs)
  refine ⟨t, (run_succ 2 hu.step).trans hrun, ?_, ?_⟩
  · rw [htregs, huregs]
    rfl
  · rw [httrace, hutrace, huregs]
    rfl

/-- R250 to R252: the exit of TERMINATING after a close that succeeded. -/
theorem terminating_exit_of_ok (h : Undisturbed s) (hst : s.regs.st = 5#3) (hph : s.regs.ph = 0#4)
    (hclose : s.env.closeAnswer = .ok) :
    ∃ t, Host.Core.run Sys2Proof.core 3 s = .next t
      ∧ t.regs = { s.regs with sinkOpen := false, actOwned := false, busOwned := false, st := 6#3, ph := 0#4 }
      ∧ t.env.trace = s.env.trace ++ [.sinkClose s.env.closeAnswer] ++ releaseOf s.regs.actOwned .actRelease
        ++ [.busRelease] := by
  obtain ⟨u, hu, h'⟩ := h.stepsTo (f := terminateClose) (fun _ => rfl) hst hph (by decide)
  have huregs := hu.regs.trans (terminateClose_regs_of_ok (s := s.begin) hclose)
  obtain ⟨hcloseEnv, -⟩ := terminateClose_env_diag s.begin
  have huenv := hu.env.trans hcloseEnv
  obtain ⟨t, hrun, htregs, httrace⟩ :=
    terminating_releases_transports h' (congrArg Regs.st huregs) (congrArg Regs.ph huregs)
  refine ⟨t, (run_succ 2 hu.step).trans hrun, ?_, ?_⟩
  · rw [htregs, huregs]
    rfl
  · rw [httrace, huenv, huregs]
    rfl

/-- R250, R256, R257: the exit of TERMINATING after a close that failed goes through ABORTED from its phase 1. -/
theorem terminating_exit_of_fail (h : Undisturbed s) (hst : s.regs.st = 5#3) (hph : s.regs.ph = 0#4)
    (hclose : s.env.closeAnswer = .fail) :
    ∃ t, Host.Core.run Sys2Proof.core 3 s = .next t
      ∧ t.regs = { (abort .sinkWriteFailure 5#3 0#4 0#8 0#16 0#16 3#4 s).regs with
          sinkOpen := false, actOwned := false, busOwned := false }
      ∧ t.env.trace = s.env.trace ++ [.sinkClose s.env.closeAnswer] ++ releaseOf s.regs.actOwned .actRelease
        ++ releaseOf s.regs.busOwned .busRelease := by
  obtain ⟨u, hu, h'⟩ := h.stepsTo (f := terminateClose) (fun _ => rfl) hst hph (by decide)
  have huregs := hu.regs.trans (terminateClose_regs_of_fail (s := s.begin) hclose)
  obtain ⟨hcloseEnv, -⟩ := terminateClose_env_diag s.begin
  have huenv := hu.env.trans hcloseEnv
  obtain ⟨t, hrun, htregs, httrace⟩ :=
    aborted_releases_transports h' (congrArg Regs.st huregs) (congrArg Regs.ph huregs)
  refine ⟨t, (run_succ 2 hu.step).trans hrun, ?_, ?_⟩
  · rw [htregs, huregs]
    rfl
  · rw [httrace, huenv, huregs]
    rfl

/-- R249: at the entry of TERMINATING the sink is open, the bus is owned and no error is recorded. -/
theorem owned_at_terminating (h : Inv s) (hst : s.regs.st = 5#3) (hph : s.regs.ph = 0#4) :
    s.regs.busOwned = true ∧ s.regs.sinkOpen = true ∧ s.regs.err = 0#3 := by
  obtain ⟨-, -, hregs⟩ := inv_iff.mp h
  obtain ⟨⟨⟨herr, -⟩, -⟩, -, ⟨hbus, hsink, -⟩, -⟩ := (regsOk_terminating_iff hst).mp hregs
  exact ⟨hbus, by rw [hsink, hph]; rfl, herr⟩

end

/-- Settles O60: the three exits, with what the invariant says of the ownership at the entry of TERMINATING. -/
theorem everyExitReleasesTheResources : Obligations.EveryExitReleasesTheResources := by
  rintro s hinv ⟨hp, hr, -⟩ hsched hph (hst | hst)
  · obtain ⟨hbus, hsink, herr⟩ := owned_at_terminating hinv hst hph
    have h7 : s.regs.st ≠ 7#3 := by simp [hst]
    rw [hbus, hsink]
    cases hclose : s.env.closeAnswer with
    | ok =>
      obtain ⟨t, hrun, hregs, htrace⟩ := terminating_exit_of_ok ⟨hp, hr, hsched⟩ hst hph hclose
      rw [hclose] at htrace
      refine ⟨t, hrun, ?_⟩
      rw [hregs]
      exact ⟨.inl ⟨rfl, rfl⟩, rfl, rfl, rfl, htrace, fun hst' => absurd hst' h7, fun _ _ => ⟨rfl, herr⟩, nofun⟩
    | fail =>
      obtain ⟨t, hrun, hregs, htrace⟩ := terminating_exit_of_fail ⟨hp, hr, hsched⟩ hst hph hclose
      rw [hclose, hbus] at htrace
      refine ⟨t, hrun, ?_⟩
      rw [hregs]
      exact ⟨.inr ⟨rfl, rfl⟩, rfl, rfl, rfl, htrace, fun hst' => absurd hst' h7, nofun, fun _ _ => ⟨rfl, rfl⟩⟩
  · obtain ⟨t, hrun, hregs, htrace⟩ := aborted_exit ⟨hp, hr, hsched⟩ hst hph
    have h5 : s.regs.st ≠ 5#3 := by simp [hst]
    refine ⟨t, hrun, ?_⟩
    rw [hregs]
    exact ⟨.inr ⟨rfl, rfl⟩, rfl, rfl, rfl, htrace, fun _ => ⟨rfl, rfl⟩, fun hst' => absurd hst' h5,
      fun hst' => absurd hst' h5⟩

end Sys2Proof.Machine
end

section
/-! PROOFS. Fatal errors (R260 to R286): the map of R269 from a step to the error that it raises, what the entry of
ABORTED records and keeps (R280), and ABORTED itself, which keeps the record and releases (R285, R286). -/

namespace Sys2Proof.Machine
open Sys2Proof.Safety

/-! ## The map from a step to its error -/

/-- The lines of R269: the fatal error that the step of (ST, PH) can raise, its address, and the expected and the actual
value. -/
inductive FatalError (s : State) : StCode → Phase → RunError → Addr → Word16 → Word16 → Prop where
  | configInvalid : FatalError s 0#3 0#4 .configValidationError 0#8 0#16 0#16
  | busNotOpened : FatalError s 1#3 1#4 .ioFailure 0#8 0#16 0#16
  | sinkNotOpened : FatalError s 1#3 2#4 .sinkWriteFailure 0#8 0#16 0#16
  | entryNotWritten {ph : Phase} : 3#4 ≤ ph → ph ≤ 8#4 →
      FatalError s 1#3 ph .ioFailure (initEntry s.params (ph.toNat - 3)).1 0#16 0#16
  | identityNotRead : FatalError s 1#3 9#4 .ioFailure s.params.aDeviceId 0#16 0#16
  | identityDiffers {w : Word16} : s.env.readAnswer s.params.aDeviceId = .ok w → swap16 w ≠ Config.idExpected →
      FatalError s 1#3 9#4 .identityMismatch s.params.aDeviceId Config.idExpected (swap16 w)
  | pollTimedOut : FatalError s 2#3 0#4 .pollTimeout s.params.aStatus 0#16 0#16
  | recordNotEmitted : FatalError s 3#3 3#4 .sinkWriteFailure 0#8 0#16 0#16
  | commandNotSent : FatalError s 4#3 0#4 .sinkWriteFailure 0#8 0#16 0#16
  | sinkNotClosed : FatalError s 5#3 0#4 .sinkWriteFailure 0#8 0#16 0#16

section
variable {s : State} {st : StCode} {ph : Phase} {e : RunError} {a : Addr} {x v : Word16}

/-! ### The codes -/

theorem FatalError.code_of_idle (h : FatalError s st ph e a x v) (hst : st = 0#3) : e.code = 4#3 := by
  subst hst
  cases h
  rfl

theorem FatalError.code_of_sink_open (h : FatalError s st ph e a x v) (hst : st = 1#3) (hph : ph = 2#4) :
    e.code = 5#3 := by
  subst hst
  cases h with
  | sinkNotOpened => rfl
  | busNotOpened | identityNotRead | identityDiffers => cases hph
  | entryNotWritten hlo => exact absurd hlo (by rw [hph]; decide)

/-- R262: in INITIALIZING every failure on the bus is an IoFailure. -/
theorem FatalError.code_of_bus (h : FatalError s st ph e a x v) (hst : st = 1#3) (hsink : ph ≠ 2#4)
    (hidentity : ph ≠ 9#4) : e.code = 1#3 := by
  subst hst
  cases h with
  | busNotOpened | entryNotWritten => rfl
  | sinkNotOpened => exact absurd rfl hsink
  | identityNotRead | identityDiffers => exact absurd rfl hidentity

theorem FatalError.code_of_identity (h : FatalError s st ph e a x v) (hst : st = 1#3) (hph : ph = 9#4) :
    e.code = 1#3 ∨ e.code = 2#3 := by
  subst hst
  cases h with
  | identityNotRead => exact .inl rfl
  | identityDiffers => exact .inr rfl
  | busNotOpened | sinkNotOpened => cases hph
  | entryNotWritten _ hhi => exact absurd hhi (by rw [hph]; decide)

theorem FatalError.code_of_polling (h : FatalError s st ph e a x v) (hst : st = 2#3) : e.code = 6#3 := by
  subst hst
  cases h
  rfl

/-- R266: in SAMPLING, ACTUATING and TERMINATING the one error is a failed write of the sink or of a command. -/
theorem FatalError.code_of_write (h : FatalError s st ph e a x v) (hst : st = 3#3 ∨ st = 4#3 ∨ st = 5#3) :
    e.code = 5#3 := by
  obtain rfl | rfl | rfl := hst <;> cases h <;> rfl

/-! ### The addresses -/

/-- R269: outside INITIALIZING and POLLING an error has no address. -/
theorem FatalError.address_of_other (h : FatalError s st ph e a x v) (h1 : st ≠ 1#3) (h2 : st ≠ 2#3) : a = 0#8 := by
  cases h with
  | configInvalid | recordNotEmitted | commandNotSent | sinkNotClosed => rfl
  | pollTimedOut => exact absurd rfl h2
  | busNotOpened | sinkNotOpened | entryNotWritten | identityNotRead | identityDiffers => exact absurd rfl h1

/-- R269: before the table is written an error has no address. -/
theorem FatalError.address_of_open (h : FatalError s st ph e a x v) (hst : st = 1#3) (hph : ph ≤ 2#4) : a = 0#8 := by
  subst hst
  cases h with
  | busNotOpened | sinkNotOpened => rfl
  | entryNotWritten hlo => bv_omega
  | identityNotRead | identityDiffers => exact absurd hph (by decide)

/-- With legal parameters each of the six entries stands in the table (R12). -/
theorem getElem?_initTable {p : Params} (h : paramsLegal p = true) {k : Nat} (hk : k < 6) :
    p.initTable[k]? = some (initEntry p k) := by
  obtain ⟨-, -, hlen, -⟩ := (paramsLegal_iff p).mp h
  simp [initEntry, hlen, hk]

theorem FatalError.address_of_entry (h : FatalError s st ph e a x v) (hp : paramsLegal s.params = true)
    (hst : st = 1#3) (hlo : 3#4 ≤ ph) (hhi : ph ≤ 8#4) :
    s.params.initTable[ph.toNat - 3]?.map (·.1) = some a := by
  subst hst
  cases h with
  | entryNotWritten => rw [getElem?_initTable hp (by bv_omega), Option.map_some]
  | busNotOpened | sinkNotOpened => exact absurd hlo (by decide)
  | identityNotRead | identityDiffers => exact absurd hhi (by decide)

theorem FatalError.address_of_identity (h : FatalError s st ph e a x v) (hst : st = 1#3) (hph : ph = 9#4) :
    a = s.params.aDeviceId := by
  subst hst
  cases h with
  | identityNotRead | identityDiffers => rfl
  | busNotOpened | sinkNotOpened => cases hph
  | entryNotWritten _ hhi => exact absurd hhi (by rw [hph]; decide)

theorem FatalError.address_of_polling (h : FatalError s st ph e a x v) (hst : st = 2#3) : a = s.params.aStatus := by
  subst hst
  cases h
  rfl

/-! ### The identities -/

/-- R263: the one error with code 2 comes of a read that answered another identity. -/
theorem FatalError.values_of_mismatch (h : FatalError s st ph e a x v) (hcode : e.code = 2#3) :
    x = 0x3055#16 ∧ v ≠ 0x3055#16 ∧ ∃ w, s.env.readAnswer s.params.aDeviceId = .ok w ∧ v = swap16 w := by
  cases h with
  | identityDiffers hread hne => exact ⟨rfl, hne, _, hread, rfl⟩
  | configInvalid | busNotOpened | sinkNotOpened | entryNotWritten | identityNotRead | pollTimedOut | recordNotEmitted
  | commandNotSent | sinkNotClosed => cases hcode

theorem FatalError.values_of_other (h : FatalError s st ph e a x v) (hcode : e.code ≠ 2#3) : x = 0#16 ∧ v = 0#16 := by
  cases h with
  | identityDiffers => exact absurd rfl hcode
  | configInvalid | busNotOpened | sinkNotOpened | entryNotWritten | identityNotRead | pollTimedOut | recordNotEmitted
  | commandNotSent | sinkNotClosed => exact ⟨rfl, rfl⟩

end

/-! ## The record -/

/-- The six registers of R39 hold the error `e` of the step of (ST, PH) = (`st`, `ph`). -/
structure RecordsError (e : RunError) (st : StCode) (ph : Phase) (a : Addr) (x v : Word16) (r : Regs) : Prop where
  /-- The code (R261). -/
  err : r.err = e.code
  /-- ST of the step. -/
  estate : r.estate = st
  /-- PH of the step. -/
  eph : r.eph = ph
  /-- The address involved. -/
  eaddr : r.eaddr = a
  /-- The expected identity. -/
  eexp : r.eexp = x
  /-- The actual identity. -/
  eact : r.eact = v

theorem recordsError_abort (e : RunError) (st : StCode) (ph : Phase) (a : Addr) (x v : Word16) (entry : Phase)
    (s : State) : RecordsError e st ph a x v (abort e st ph a x v entry s).regs :=
  ⟨rfl, rfl, rfl, rfl, rfl, rfl⟩

/-- The step function of (ST, PH) recorded an error of the map, and raised no event (R280). -/
inductive RaisedFatal (s : State) (st : StCode) (ph : Phase) (u : State) : Prop where
  | mk {e : RunError} {a : Addr} {x v : Word16} (error : FatalError s st ph e a x v)
      (record : RecordsError e st ph a x v u.regs) (diag : u.diag = s.diag) : RaisedFatal s st ph u

/-- R230: the end of an iteration does not lead to ABORTED. -/
theorem advanceRegs_st_ne (w : Nat) (r : Regs) : (advanceRegs w r).st ≠ 7#3 := by
  obtain ⟨-, h⟩ | ⟨-, -, -, h⟩ | ⟨-, -, h⟩ := advanceRegs_cases w r <;> rw [h] <;> nofun

section
variable (s : State)

theorem idleStep_fatal (hst : s.regs.st ≠ 7#3) (h : (idleStep s).regs.st = 7#3) :
    RaisedFatal s 0#3 0#4 (idleStep s) := by
  unfold idleStep at h ⊢
  split_ifs at h ⊢
  · cases h
  · exact .mk .configInvalid (recordsError_abort ..) rfl
  · exact absurd h hst

theorem initOpenBus_fatal (h : (initOpenBus s).regs.st = 7#3) : RaisedFatal s 1#3 1#4 (initOpenBus s) := by
  obtain ⟨-, hdiag⟩ := initOpenBus_env_diag s
  cases hopen : s.env.openAnswer with
  | ok => rw [initOpenBus_regs_of_ok hopen] at h; cases h
  | fail => exact .mk .busNotOpened (initOpenBus_regs_of_fail hopen ▸ recordsError_abort ..) hdiag

theorem initOpenSink_fatal (h : (initOpenSink s).regs.st = 7#3) : RaisedFatal s 1#3 2#4 (initOpenSink s) := by
  obtain ⟨-, hdiag⟩ := initOpenSink_env_diag s
  cases hopen : s.env.sinkOpenAnswer with
  | ok => rw [initOpenSink_regs_of_ok hopen] at h; cases h
  | fail => exact .mk .sinkNotOpened (initOpenSink_regs_of_fail hopen ▸ recordsError_abort ..) hdiag

theorem initWriteStep_fatal {ph : Phase} (hlo : 3#4 ≤ ph) (hhi : ph ≤ 8#4) (h : (initWriteStep ph s).regs.st = 7#3) :
    RaisedFatal s 1#3 ph (initWriteStep ph s) := by
  cases hwrite : s.memWrite (initEntry s.params (ph.toNat - 3)).1 (initEntry s.params (ph.toNat - 3)).2 with
  | ok => rw [initWriteStep_of_ok rfl hwrite] at h; cases h
  | fail =>
    rw [initWriteStep_of_fail rfl hwrite]
    exact .mk (.entryNotWritten hlo hhi) (recordsError_abort ..) rfl

theorem initCheckIdentity_fatal (h : (initCheckIdentity s).regs.st = 7#3) :
    RaisedFatal s 1#3 9#4 (initCheckIdentity s) := by
  obtain ⟨-, hdiag⟩ := initCheckIdentity_env_diag s
  cases hread : s.env.readAnswer s.params.aDeviceId with
  | ok w =>
    by_cases hid : swap16 w = Config.idExpected
    · rw [initCheckIdentity_regs_of_match hread hid] at h; cases h
    · exact .mk (.identityDiffers hread hid)
        (initCheckIdentity_regs_of_mismatch hread hid ▸ recordsError_abort ..) hdiag
  | fail => exact .mk .identityNotRead (initCheckIdentity_regs_of_fail hread ▸ recordsError_abort ..) hdiag

theorem pollStep_fatal (hst : s.regs.st = 2#3) (hph : s.regs.ph = 0#4) (h : (pollStep s).regs.st = 7#3) :
    RaisedFatal s 2#3 0#4 (pollStep s) := by
  by_cases hstop : s.params.hasStop = true ∧ s.host.stopReq = true
  · rw [pollStep_of_stop hstop] at h; cases h
  by_cases htimeout : s.params.pollLimit ≠ 0 ∧ s.params.pollLimit ≤ s.regs.polls
  · rw [pollStep_of_timeout hstop htimeout]
    exact .mk .pollTimedOut (recordsError_abort ..) rfl
  · have hpc := pollRead_pc s hst hph
    rw [pollStep_of_read hstop htimeout] at h
    simp [pcPair, h] at hpc

theorem sampleHigh_not_fatal : (sampleHigh s).regs.st ≠ 7#3 := by
  cases h : s.env.readAnswer s.params.aDataMsb with
  | ok w => rw [sampleHigh_of_ok h]; nofun
  | fail => rw [sampleHigh_of_fail h]; exact advanceRegs_st_ne _ _

theorem sampleLow_not_fatal : (sampleLow s).regs.st ≠ 7#3 := by
  cases h : s.memRead s.params.aDataLsb with
  | ok l => rw [sampleLow_of_ok h]; nofun
  | fail => rw [sampleLow_of_fail h]; exact advanceRegs_st_ne _ _

theorem sampleEmit_fatal (h : (sampleEmit s).regs.st = 7#3) : RaisedFatal s 3#3 3#4 (sampleEmit s) := by
  obtain ⟨-, hdiag⟩ := sampleEmit_env_diag s
  cases hemit : s.env.emitAnswer (sampleRecord s.regs) with
  | ok => rw [sampleEmit_regs_of_ok hemit] at h; exact absurd h (advanceRegs_st_ne _ _)
  | fail => exact .mk .recordNotEmitted (sampleEmit_regs_of_fail hemit ▸ recordsError_abort ..) hdiag

theorem actuateStep_fatal (h : (actuateStep s).regs.st = 7#3) : RaisedFatal s 4#3 0#4 (actuateStep s) := by
  cases hlimit : exceedsLimit s.regs.cmd s.regs.cfgLim with
  | true => rw [actuateStep_of_exceeds hlimit] at h; cases h
  | false =>
    obtain ⟨-, hdiag⟩ := actuateStep_env_diag hlimit
    cases hsend : s.env.sendAnswer (wireVector s.params s.regs.cmd) with
    | ok n => rw [actuateStep_regs_of_ok hlimit hsend] at h; cases h
    | fail => exact .mk .commandNotSent (actuateStep_regs_of_fail hlimit hsend ▸ recordsError_abort ..) hdiag

theorem terminateClose_fatal (h : (terminateClose s).regs.st = 7#3) : RaisedFatal s 5#3 0#4 (terminateClose s) := by
  obtain ⟨-, hdiag⟩ := terminateClose_env_diag s
  cases hclose : s.env.closeAnswer with
  | ok => rw [terminateClose_regs_of_ok hclose] at h; cases h
  | fail => exact .mk .sinkNotClosed (terminateClose_regs_of_fail hclose ▸ ⟨rfl, rfl, rfl, rfl, rfl, rfl⟩) hdiag

end

/-- R269: every step that enters ABORTED raised an error of the map. -/
theorem Handles.raisedFatal {s u : State} (h : Handles s s.regs.st s.regs.ph u) (hst7 : s.regs.st ≠ 7#3)
    (hu : u.regs.st = 7#3) : RaisedFatal s s.regs.st s.regs.ph u := by
  generalize hst : s.regs.st = st, hph : s.regs.ph = ph at h
  cases h with
  | idle => exact idleStep_fatal s hst7 hu
  | openBus => exact initOpenBus_fatal s hu
  | openSink => exact initOpenSink_fatal s hu
  | writeEntry hlo hhi => exact initWriteStep_fatal s hlo hhi hu
  | checkIdentity => exact initCheckIdentity_fatal s hu
  | poll => exact pollStep_fatal s hst hph hu
  | readHigh => exact absurd hu (sampleHigh_not_fatal s)
  | readLow => exact absurd hu (sampleLow_not_fatal s)
  | emit => exact sampleEmit_fatal s hu
  | actuate => exact actuateStep_fatal s hu
  | close => exact terminateClose_fatal s hu
  | terminateActuator => rw [terminateActuator_regs] at hu; cases hu
  | captureTime | stamp | terminateBus => cases hu
  | done => exact absurd hu hst7
  | abortClose | abortActuator | abortBus | aborted => exact absurd hst hst7

/-! ## What the entry of ABORTED keeps -/

/-- Everything the edges into ABORTED can do to the registers (R280): IDLE latches before it aborts (R200), TERMINATING
closes the sink all the same and enters at phase 1 (R250), and every other state aborts and does nothing else. -/
theorem RegsStep.cases_of_abort {s : State} {r : Regs} (hstep : RegsStep s r) (hst : s.regs.st ≠ 7#3)
    (hr : r.st = 7#3) :
    s.regs.st = 0#3 ∧ r = (abort .configValidationError 0#3 0#4 0#8 0#16 0#16 0#4 (latchConfig s)).regs
      ∨ s.regs.st = 5#3
        ∧ r = (abort .sinkWriteFailure 5#3 0#4 0#8 0#16 0#16 1#4
          { s with regs := { s.regs with sinkOpen := false } }).regs
      ∨ s.regs.st ≠ 0#3 ∧ s.regs.st ≠ 5#3 ∧ ∃ e st ph a x v, r = (abort e st ph a x v 0#4 s).regs := by
  cases hstep with
  | rejected hidle => exact .inl ⟨hidle.1, rfl⟩
  | closeFailed hst5 => exact .inr (.inl ⟨hst5, rfl⟩)
  | aborted hmem =>
    exact .inr (.inr ⟨fun h0 => by simp [h0] at hmem, fun h5 => by simp [h5] at hmem, _, _, _, _, _, _, rfl⟩)
  | waited | polled => exact absurd hr hst
  | skipped | emitted => exact absurd hr (advanceRegs_st_ne _ _)
  | abortClosed h7 | abortActuatorReleased h7 | abortBusReleased h7 => exact absurd h7 hst
  | started | timeCaptured | busOpened | sinkOpened | entryWritten | identified | stopped | ready | highRead | lowRead
  | stamped | sent | closed | actuatorReleased | busReleased => cases hr

/-- Data registers, counters, sticky flags, commanded value and the ownership of the two transports are the same. -/
abbrev SameRun (r r' : Regs) : Prop :=
  r'.hi = r.hi ∧ r'.lo = r.lo ∧ r'.mag = r.mag ∧ r'.ef = r.ef ∧ r'.efs = r.efs ∧ r'.stat = r.stat ∧ r'.t0s = r.t0s
    ∧ r'.t0n = r.t0n ∧ r'.tss = r.tss ∧ r'.tsn = r.tsn ∧ r'.nit = r.nit ∧ r'.nem = r.nem ∧ r'.nsk = r.nsk
    ∧ r'.sct = r.sct ∧ r'.polls = r.polls ∧ r'.cmd = r.cmd ∧ r'.busOwned = r.busOwned ∧ r'.actOwned = r.actOwned

section
variable (e : RunError) (st : StCode) (ph : Phase) (a : Addr) (x v : Word16) (entry : Phase) (s : State)

theorem sameRun_abort : SameRun s.regs (abort e st ph a x v entry s).regs :=
  ⟨rfl, rfl, rfl, rfl, rfl, rfl, rfl, rfl, rfl, rfl, rfl, rfl, rfl, rfl, rfl, rfl, rfl, rfl⟩

theorem sameConfig_abort : SameConfig s.regs (abort e st ph a x v entry s).regs := ⟨rfl, rfl, rfl, rfl, rfl, rfl⟩

end

/-- What an entry of ABORTED leaves in the registers that are not of the error record. -/
structure AbortEntry (s : State) (r : Regs) : Prop where
  /-- R250, R280: from TERMINATING the phase is 1. -/
  ph : r.ph = if s.regs.st = 5#3 then 1#4 else 0#4
  /-- R280: what the run has measured, counted, commanded and acquired stays. -/
  run : SameRun s.regs r
  /-- R250: TERMINATING has closed the sink. -/
  sink : r.sinkOpen = (s.regs.sinkOpen && decide (s.regs.st ≠ 5#3))
  /-- R280: outside IDLE the configuration stays. -/
  config : s.regs.st ≠ 0#3 → SameConfig s.regs r
  /-- R200: IDLE has latched what is offered. -/
  latched : s.regs.st = 0#3 → SameConfig (latchConfig s).regs r

theorem RegsStep.abortEntry {s : State} {r : Regs} (hstep : RegsStep s r) (hst : s.regs.st ≠ 7#3) (hr : r.st = 7#3) :
    AbortEntry s r := by
  obtain ⟨h0, rfl⟩ | ⟨h5, rfl⟩ | ⟨h0, h5, e, st, ph, a, x, v, rfl⟩ := hstep.cases_of_abort hst hr
  · exact ⟨by simp [h0], sameRun_abort .., by simp [h0], absurd h0, fun _ => sameConfig_abort ..⟩
  · exact ⟨by simp [h5], sameRun_abort .., by simp [h5], fun _ => sameConfig_abort .., fun h0 => by simp [h5] at h0⟩
  · exact ⟨by simp [h5], sameRun_abort .., by simp [h5], fun _ => sameConfig_abort .., fun hidle => absurd hidle h0⟩

/-- Settles O49: the error is that of the map of R269, whose columns give the record; the edge into ABORTED gives the
rest. -/
theorem fatalErrorEntryRecordsTheError : Obligations.FatalErrorEntryRecordsTheError := by
  rintro s t ⟨hp, hr, hn⟩ hst h ht
  obtain ⟨u, he, -, rfl⟩ := step_of_handler hn hr h
  obtain ⟨error, record, hdiag⟩ := (exec_handler_handles he).raisedFatal (s := s.begin) hst ht
  have hentry := (exec_handler_effect (s := s.begin) he).edge.abortEntry hst ht
  obtain ⟨hhi, hlo, hmag, hef, hefs, hstat, ht0s, ht0n, htss, htsn, hnit, hnem, hnsk, hsct, hpolls, hcmd, hbus, hact⟩ :=
    hentry.run
  have herr := record.err
  refine ⟨record.estate, record.eph, hentry.ph, fun h0 => herr.trans (error.code_of_idle h0),
    fun h2 => herr.trans (error.code_of_polling h2), fun h1 hph => herr.trans (error.code_of_sink_open h1 hph),
    fun h1 hsink hid => herr.trans (error.code_of_bus h1 hsink hid),
    fun h1 hph => (error.code_of_identity h1 hph).imp herr.trans herr.trans,
    fun hwrite => herr.trans (error.code_of_write hwrite),
    fun h1 h2 => record.eaddr.trans (error.address_of_other h1 h2),
    fun h1 hph => record.eaddr.trans (error.address_of_open h1 hph),
    fun h1 hlo hhi => (error.address_of_entry hp h1 hlo hhi).trans (congrArg some record.eaddr.symm),
    fun h1 hph => record.eaddr.trans (error.address_of_identity h1 hph),
    fun h2 => record.eaddr.trans (error.address_of_polling h2), fun hne => ?_, fun hcode => ?_,
    hhi, hlo, hmag, hef, hefs, hstat, ht0s, ht0n, htss, htsn, hnit, hnem, hnsk, hsct, hpolls, hcmd, hbus, hact,
    hentry.sink, hentry.config, fun h0 => ?_, hdiag⟩
  · obtain ⟨hx, hv⟩ := error.values_of_other fun hcode => hne (herr.trans hcode)
    exact ⟨record.eexp.trans hx, record.eact.trans hv⟩
  · obtain ⟨hx, hv, w, hread, hw⟩ := error.values_of_mismatch (herr.symm.trans hcode)
    exact ⟨record.eexp.trans hx, record.eact.symm ▸ hv, w, hread, record.eact.trans hw⟩
  · obtain ⟨hch, hnsamp, hstep, hrest⟩ := hentry.latched h0
    exact ⟨hch, hnsamp.trans (narrow_natCast ..), hstep.trans (narrow_natCast ..), hrest⟩

/-! ## ABORTED -/

/-- The error record of R39 is the same. -/
abbrev SameErrorRecord (r r' : Regs) : Prop :=
  r'.err = r.err ∧ r'.estate = r.estate ∧ r'.eph = r.eph ∧ r'.eaddr = r.eaddr ∧ r'.eexp = r.eexp ∧ r'.eact = r.eact

/-- R285: the handlers of ABORTED stay in ABORTED and raise no second error. -/
theorem Handles.sameErrorRecord_of_aborted {s u : State} {ph : Phase} (h : Handles s 7#3 ph u)
    (hst : s.regs.st = 7#3) : u.regs.st = 7#3 ∧ SameErrorRecord s.regs u.regs := by
  cases h with
  | abortClose => rw [abortClose_regs]; exact ⟨rfl, rfl, rfl, rfl, rfl, rfl, rfl⟩
  | abortActuator => rw [abortActuator_regs]; exact ⟨rfl, rfl, rfl, rfl, rfl, rfl, rfl⟩
  | abortBus => rw [abortBus_regs]; exact ⟨rfl, rfl, rfl, rfl, rfl, rfl, rfl⟩
  | aborted => exact ⟨hst, rfl, rfl, rfl, rfl, rfl, rfl⟩

/-- R286: what the table of R259 lists in ABORTED is a release. -/
theorem onTeardown_of_aborted {p : Params} {ph : Phase} {x : Txn} (h : transactionListed p 7#3 ph x) :
    onTeardown x = true := by
  cases x with
  | sinkClose | actRelease | busRelease => rfl
  | busOpen | busRead | busWrite | timeNow | sinkOpen | sinkEmit | actSend => simp [transactionListed] at h

/-- Settles O50: outside IDLE no driver word is taken, so the step is a handler of ABORTED, with a release of R259 or no
transaction. -/
theorem errorRecordIsWrittenOnce : Obligations.ErrorRecordIsWrittenOnce := by
  intro s t hr hst h
  obtain ⟨hp, -⟩ := step_cases h
  have hn : HandlerNext s := .inr fun ⟨hidle, _⟩ => by simp [hst] at hidle
  obtain ⟨u, he, hframe, rfl⟩ := step_of_handler hn hr h
  rw [hst] at he hframe
  obtain ⟨hst', herr, hestate, heph, headdr, heexp, heact⟩ :=
    (exec_handler_handles he).sameErrorRecord_of_aborted (s := s.begin) hst
  exact ⟨hst', herr, hestate, heph, headdr, heexp, heact, hframe.transaction.imp_right fun ⟨x, htrace, hlisted⟩ =>
    ⟨x, htrace, onTeardown_of_aborted (hlisted hp)⟩⟩

end Sys2Proof.Machine
end

section
/-! PROOFS. Reset and hazards: what the reset step leaves (R310, R311), and from where and by which read SAMPLING is
entered (R323) and the low register is reached (R320). -/

namespace Sys2Proof.Machine
open Sys2Proof.Safety

/-! ## The reset step -/

/-- R311: the reset step puts the control registers at the values of R50, whatever the run was doing. -/
theorem controlReset_resetStep (s : State) : ControlReset (resetStep s).regs := by
  simp [ControlReset]

/-- With legal parameters and `rst` high a step is the reset step (R310). -/
theorem step_eq_resetStep {s : State} (hp : paramsLegal s.params = true) (hr : s.host.rst = true) :
    step s = .next (resetStep { s with diag := [], drvResult := none }).tick := by
  simp [step, hp, hr]

/-- Settles O40: of the environment the reset step changes only the number of draws, so nothing is exchanged. -/
theorem resetStepSetsTheControlRegisters : Obligations.ResetStepSetsTheControlRegisters := by
  intro s hp hr
  have hscripts : Consumes .none 0 s.env { s.env with draws := s.env.draws + 1 } :=
    ⟨rfl, rfl, rfl, rfl, rfl, rfl, rfl⟩
  exact ⟨_, step_eq_resetStep hp hr, controlReset_resetStep _, rfl, hscripts, rfl, rfl, rfl, rfl, rfl, rfl, rfl⟩

/-! ## The step of a state handler -/

/-- When the state machine runs, the step is the step function of (ST, PH); what follows it touches neither the
registers nor the environment. -/
theorem step_handles {s t : State} (hruns : RunsHandler s) (h : step s = .next t) :
    ∃ u, Handles s.begin s.regs.st s.regs.ph u ∧ t.regs = u.regs ∧ t.env = u.env := by
  obtain ⟨-, hr, hn⟩ := hruns
  obtain ⟨u, he, -, rfl⟩ := step_of_handler hn hr h
  exact ⟨u, exec_handler_handles he, rfl, rfl⟩

/-! ## The predecessors in SAMPLING -/

section
variable {p : Params} {st : StCode} {ph : Phase}

/-- In the table of R259 the low read follows the high read only. -/
theorem pc_of_lowRead_mem_successors (h : (3#3, 1#4) ∈ successors p st ph) : st = 3#3 ∧ ph = 0#4 := by
  unfold successors at h
  split at h
  case h_13 hst hph => exact ⟨BitVec.eq_of_toNat_eq hst, BitVec.eq_of_toNat_eq hph⟩
  case h_12 => split_ifs at h <;> simp at h
  all_goals simp at h

/-- In the table of R259 the high read follows the poll only. -/
theorem pc_of_highRead_mem_successors (h : (3#3, 0#4) ∈ successors p st ph) : st = 2#3 ∧ ph = 0#4 := by
  unfold successors at h
  split at h
  case h_12 hst hph => exact ⟨BitVec.eq_of_toNat_eq hst, BitVec.eq_of_toNat_eq hph⟩
  all_goals simp at h

end

/-! ## The reads that lead there -/

/-- R230: the end of an iteration never leads back into SAMPLING. -/
theorem advanceRegs_st_ne_sampling (w : Nat) (r : Regs) : (advanceRegs w r).st ≠ 3#3 := by
  obtain ⟨-, h⟩ | ⟨-, -, -, h⟩ | ⟨-, -, h⟩ := advanceRegs_cases w r <;> rw [h] <;> simp

section
variable {s : State}

/-- R221: the high read stays in SAMPLING only when it is answered, and then the value is in HI; a failed one is
skipped. -/
theorem readAnswer_of_sampleHigh (h : (sampleHigh s).regs.st = 3#3) :
    ∃ w, s.env.readAnswer s.params.aDataMsb = .ok w ∧ (sampleHigh s).regs.hi = swap16 w := by
  cases hread : s.env.readAnswer s.params.aDataMsb with
  | ok w => exact ⟨w, rfl, by rw [sampleHigh_of_ok hread]⟩
  | fail =>
    rw [sampleHigh_of_fail hread] at h
    exact (advanceRegs_st_ne_sampling _ _ h).elim

/-- R211: a status read leads from POLLING to SAMPLING only when its word shows data-ready. -/
theorem dataReady_of_pollRead (hst : s.regs.st = 2#3) (h : (pollRead s).regs.st = 3#3) :
    ∃ w, s.env.readAnswer s.params.aStatus = .ok w ∧ swap16 w &&& s.params.drdyMask ≠ 0#16 := by
  have hstays : s.regs.st ≠ 3#3 := by simp [hst]
  cases hread : s.env.readAnswer s.params.aStatus with
  | ok w =>
    refine ⟨w, rfl, fun hnone => ?_⟩
    rw [pollRead_of_not_ready hread hnone] at h
    exact hstays h
  | fail =>
    rw [pollRead_of_fail hread] at h
    exact absurd h hstays

/-- R212, R213: a poll step that leads to SAMPLING is the status read; a stop request and a poll timeout lead
elsewhere. -/
theorem pollStep_eq_pollRead (h : (pollStep s).regs.st = 3#3) : pollStep s = pollRead s := by
  by_cases hstop : s.params.hasStop = true ∧ s.host.stopReq = true
  · rw [pollStep_of_stop hstop] at h
    cases h
  by_cases htimeout : s.params.pollLimit ≠ 0 ∧ s.params.pollLimit ≤ s.regs.polls
  · rw [pollStep_of_timeout hstop htimeout] at h
    cases h
  · exact pollStep_of_read hstop htimeout

end

/-- Settles O56: the only predecessor is the high read, which reaches the low read only when it is answered. -/
theorem lowReadFollowsTheHighRead : Obligations.LowReadFollowsTheHighRead := by
  intro s t hruns h hst' hph'
  have hsuccessor := stepFollowsTheControlFlowGraph s t hruns h
  rw [hst', hph'] at hsuccessor
  obtain ⟨hst, hph⟩ := pc_of_lowRead_mem_successors hsuccessor
  obtain ⟨u, hu, hregs, henv⟩ := step_handles hruns h
  rw [hregs] at hst'
  rw [hst, hph] at hu
  cases hu
  obtain ⟨w, hread, hhi⟩ := readAnswer_of_sampleHigh hst'
  refine ⟨hst, hph, w, ?_, hregs ▸ hhi⟩
  rw [henv, sampleHigh_env, Env.afterRead_trace, hread]
  rfl

/-- Settles O57: the only predecessor is the poll, which reaches SAMPLING only when its status word shows data-ready. -/
theorem samplingFollowsDataReady : Obligations.SamplingFollowsDataReady := by
  intro s t hruns h hst' hph'
  have hsuccessor := stepFollowsTheControlFlowGraph s t hruns h
  rw [hst', hph'] at hsuccessor
  obtain ⟨hst, hph⟩ := pc_of_highRead_mem_successors hsuccessor
  obtain ⟨u, hu, hregs, henv⟩ := step_handles hruns h
  rw [hregs] at hst'
  rw [hst, hph] at hu
  cases hu
  have hpoll := pollStep_eq_pollRead hst'
  rw [hpoll] at hst' henv
  obtain ⟨w, hread, hready⟩ := dataReady_of_pollRead (s := s.begin) hst hst'
  refine ⟨hst, w, ?_, hready⟩
  rw [henv, pollRead_env, Env.afterRead_trace, hread]
  rfl

end Sys2Proof.Machine
end
